-- ==== Sys2Proof/Word.lean ====
section
/-!
DEFINITION. The word types of the core: what the spec treats as bits or as digits, with its widths
(00_scope.md R9, R10, R11, R13). No operation stands here: those are in Machine/Ops.lean.
-/
namespace Sys2Proof

/-- One digit cell: 4 bits, 0..15 (10_state.md R20). -/
abbrev Digit := BitVec 4

/-- A digit vector of sixteen digits, index 0 least significant (00_scope.md R11). -/
abbrev Digits := Vector Digit 16

/-- A 16-bit word: fA, fB, KR, SR and EXT (10_state.md R23, R24, R26; 20_memory.md R63). -/
abbrev Word16 := BitVec 16

/-- An instruction word, 13 bits (30_encoding.md R100). -/
abbrev OpWord := BitVec 13

/-- A row of the key line, KEY_W = 7 bits (20_memory.md R67). -/
abbrev KeyRow := BitVec 7

/-- `0^16`, the vector of sixteen zeros (00_scope.md R11). -/
abbrev zeroDigits : Digits := Vector.replicate 16 0

end Sys2Proof
end

