-- ==== Sys2Proof/Syntax.lean ====
section
/-!
DEFINITION. The syntax of the instruction set: one constructor of Instr per row of spec/opcode_table.json, in
its order. Bits a rule calls ignored are kept as an operand (log entry 21), so that no bit of a word is lost.
-/
namespace Sys2Proof

/-- The five digit registers (10_state.md R20). -/
inductive Reg where
  | a | b | c | d | e
deriving DecidableEq, Repr

/-- The kind of an ALU pass (30_encoding.md R110). -/
inductive Kind where
  | add | sub | shl | shr
deriving DecidableEq, Repr

/-- The eight destination codes of DEST_TABLE, in order (30_encoding.md R108). -/
inductive Dest where
  | a | io | xab | b | c | xcd | d | xae
deriving DecidableEq, Repr

/-- The instructions. -/
inductive Instr where
  /-- BR: branch marker; t is op[11:0], which the core does not interpret (41_branch.md R181). -/
  | br (t : BitVec 12)
  /-- TFA: test fA bit b (42_flag_ops.md R192). -/
  | tfa (b : BitVec 4)
  /-- SFA: set fA bit b (42_flag_ops.md R193). -/
  | sfa (b : BitVec 4)
  /-- ZFA: clear fA bit b (42_flag_ops.md R194). -/
  | zfa (b : BitVec 4)
  /-- IFA: invert fA bit b (42_flag_ops.md R195). -/
  | ifa (b : BitVec 4)
  /-- XFAB: exchange fA bit b with fB bit b (42_flag_ops.md R196). -/
  | xfab (b : BitVec 4)
  /-- SKR: set KR bit b (42_flag_ops.md R206). -/
  | skr (b : BitVec 4)
  /-- CFAB: copy fA bit b to fB bit b (42_flag_ops.md R197). -/
  | cfab (b : BitVec 4)
  /-- R5FA: load R5 into fA bits 1 to 4; b is ignored (42_flag_ops.md R198). -/
  | r5fa (b : BitVec 4)
  /-- TFB: test fB bit b (42_flag_ops.md R199). -/
  | tfb (b : BitVec 4)
  /-- SFB: set fB bit b (42_flag_ops.md R200). -/
  | sfb (b : BitVec 4)
  /-- ZFB: clear fB bit b (42_flag_ops.md R201). -/
  | zfb (b : BitVec 4)
  /-- IFB: invert fB bit b (42_flag_ops.md R202). -/
  | ifb (b : BitVec 4)
  /-- FRSV: reserved, no operation; b is ignored (42_flag_ops.md R203). -/
  | frsv (b : BitVec 4)
  /-- ZKR: clear KR bit b (42_flag_ops.md R207). -/
  | zkr (b : BitVec 4)
  /-- CFBA: copy fB bit b to fA bit b (42_flag_ops.md R204). -/
  | cfba (b : BitVec 4)
  /-- R5FB: load R5 into fB bits 1 to 4; b is ignored (42_flag_ops.md R205). -/
  | r5fb (b : BitVec 4)
  /-- KSCAN: full keyboard scan with the 7-bit mask M (43_keyboard.md R223). -/
  | kscan (mask : KeyRow)
  /-- KTEST: keyboard row test with the 7-bit mask M (43_keyboard.md R227). -/
  | ktest (mask : KeyRow)
  /-- WAITD: wait for digit-cycle b (44_wait_ops.md R242). -/
  | waitd (b : BitVec 4)
  /-- CLRIDLE: clear IDLE; b is ignored (44_wait_ops.md R243). -/
  | clridle (b : BitVec 4)
  /-- CLRFA: clear all of fA; b is ignored (44_wait_ops.md R244). -/
  | clrfa (b : BitVec 4)
  /-- WAITBUSY: unimplemented, no operation; b is ignored (44_wait_ops.md R245). -/
  | waitbusy (b : BitVec 4)
  /-- INCKR: increment KR; b is ignored (44_wait_ops.md R246). -/
  | inckr (b : BitVec 4)
  /-- TKR: test KR bit b (44_wait_ops.md R247). -/
  | tkr (b : BitVec 4)
  /-- FAR5: R5 from fA bits 1 to 4; x is op[7:5], ignored (44_wait_ops.md R248). -/
  | far5 (x : BitVec 3)
  /-- FBR5: R5 from fB bits 1 to 4; x is op[7:5], ignored (44_wait_ops.md R249). -/
  | fbr5 (x : BitVec 3)
  /-- LDR5: R5 from the immediate b (44_wait_ops.md R250). -/
  | ldr5 (b : BitVec 4)
  /-- KRR5: R5 from KR bits 4 to 7; x is op[7:5], ignored (44_wait_ops.md R251). -/
  | krr5 (x : BitVec 3)
  /-- R5KR: KR bits 4 to 7 from R5; x is op[7:5], ignored (44_wait_ops.md R252). -/
  | r5kr (x : BitVec 3)
  /-- SETIDLE: set IDLE; b is ignored (44_wait_ops.md R254). -/
  | setidle (b : BitVec 4)
  /-- CLRFB: clear all of fB; b is ignored (44_wait_ops.md R255). -/
  | clrfb (b : BitVec 4)
  /-- TBUSY: test BUSY or key on row; b is ignored (44_wait_ops.md R256). -/
  | tbusy (b : BitVec 4)
  /-- EXTKR: load KR from rotated EXT; b is ignored (44_wait_ops.md R257). -/
  | extkr (b : BitVec 4)
  /-- XKRSR: exchange KR and SR; b is ignored (44_wait_ops.md R258). -/
  | xkrsr (b : BitVec 4)
  /-- WRSV14: reserved peripheral slot, no operation in the core; b is ignored (44_wait_ops.md R259). -/
  | wrsv14 (b : BitVec 4)
  /-- WRSV15: reserved peripheral slot, no operation in the core; b is ignored (44_wait_ops.md R260). -/
  | wrsv15 (b : BitVec 4)
  /-- AR A+K: operand entry 0, mask index m, destination d (45_arithmetic.md R300). -/
  | addAK (m : BitVec 4) (dst : Dest)
  /-- AR A-K: operand entry 1, mask index m, destination d (45_arithmetic.md R301). -/
  | subAK (m : BitVec 4) (dst : Dest)
  /-- AR 0+B: operand entry 2, mask index m, destination d (45_arithmetic.md R302). -/
  | add0B (m : BitVec 4) (dst : Dest)
  /-- AR 0-B: operand entry 3, mask index m, destination d (45_arithmetic.md R303). -/
  | sub0B (m : BitVec 4) (dst : Dest)
  /-- AR C+K: operand entry 4, mask index m, destination d (45_arithmetic.md R304). -/
  | addCK (m : BitVec 4) (dst : Dest)
  /-- AR C-K: operand entry 5, mask index m, destination d (45_arithmetic.md R305). -/
  | subCK (m : BitVec 4) (dst : Dest)
  /-- AR 0+D: operand entry 6, mask index m, destination d (45_arithmetic.md R306). -/
  | add0D (m : BitVec 4) (dst : Dest)
  /-- AR 0-D: operand entry 7, mask index m, destination d (45_arithmetic.md R307). -/
  | sub0D (m : BitVec 4) (dst : Dest)
  /-- AR SHLA: operand entry 8, mask index m, destination d (45_arithmetic.md R308). -/
  | shlA (m : BitVec 4) (dst : Dest)
  /-- AR SHRA: operand entry 9, mask index m, destination d (45_arithmetic.md R309). -/
  | shrA (m : BitVec 4) (dst : Dest)
  /-- AR SHLB: operand entry 10, mask index m, destination d (45_arithmetic.md R310). -/
  | shlB (m : BitVec 4) (dst : Dest)
  /-- AR SHRB: operand entry 11, mask index m, destination d (45_arithmetic.md R311). -/
  | shrB (m : BitVec 4) (dst : Dest)
  /-- AR SHLC: operand entry 12, mask index m, destination d (45_arithmetic.md R312). -/
  | shlC (m : BitVec 4) (dst : Dest)
  /-- AR SHRC: operand entry 13, mask index m, destination d (45_arithmetic.md R313). -/
  | shrC (m : BitVec 4) (dst : Dest)
  /-- AR SHLD: operand entry 14, mask index m, destination d (45_arithmetic.md R314). -/
  | shlD (m : BitVec 4) (dst : Dest)
  /-- AR SHRD: operand entry 15, mask index m, destination d (45_arithmetic.md R315). -/
  | shrD (m : BitVec 4) (dst : Dest)
  /-- AR A+B: operand entry 16, mask index m, destination d (45_arithmetic.md R316). -/
  | addAB (m : BitVec 4) (dst : Dest)
  /-- AR A-B: operand entry 17, mask index m, destination d (45_arithmetic.md R317). -/
  | subAB (m : BitVec 4) (dst : Dest)
  /-- AR C+B: operand entry 18, mask index m, destination d (45_arithmetic.md R318). -/
  | addCB (m : BitVec 4) (dst : Dest)
  /-- AR C-B: operand entry 19, mask index m, destination d (45_arithmetic.md R319). -/
  | subCB (m : BitVec 4) (dst : Dest)
  /-- AR C+D: operand entry 20, mask index m, destination d (45_arithmetic.md R320). -/
  | addCD (m : BitVec 4) (dst : Dest)
  /-- AR C-D: operand entry 21, mask index m, destination d (45_arithmetic.md R321). -/
  | subCD (m : BitVec 4) (dst : Dest)
  /-- AR A+D: operand entry 22, mask index m, destination d (45_arithmetic.md R322). -/
  | addAD (m : BitVec 4) (dst : Dest)
  /-- AR A-D: operand entry 23, mask index m, destination d (45_arithmetic.md R323). -/
  | subAD (m : BitVec 4) (dst : Dest)
  /-- AR A+IO: operand entry 24, mask index m, destination d (45_arithmetic.md R324). -/
  | addAIO (m : BitVec 4) (dst : Dest)
  /-- AR A-IO: operand entry 25, mask index m, destination d (45_arithmetic.md R325). -/
  | subAIO (m : BitVec 4) (dst : Dest)
  /-- AR 0+K: operand entry 26, mask index m, destination d (45_arithmetic.md R326). -/
  | add0K (m : BitVec 4) (dst : Dest)
  /-- AR 0-K: operand entry 27, mask index m, destination d (45_arithmetic.md R327). -/
  | sub0K (m : BitVec 4) (dst : Dest)
  /-- AR C+IO: operand entry 28, mask index m, destination d (45_arithmetic.md R328). -/
  | addCIO (m : BitVec 4) (dst : Dest)
  /-- AR C-IO: operand entry 29, mask index m, destination d (45_arithmetic.md R329). -/
  | subCIO (m : BitVec 4) (dst : Dest)
  /-- AR R5+: operand entry 30, mask index m, destination d (45_arithmetic.md R330). -/
  | addR5 (m : BitVec 4) (dst : Dest)
  /-- AR R5-: operand entry 31, mask index m, destination d (45_arithmetic.md R331). -/
  | subR5 (m : BitVec 4) (dst : Dest)
deriving DecidableEq, Repr

end Sys2Proof
end

