-- ==== Sys2Proof/WellFormed.lean ====
section
/-!
DEFINITION. Well-formedness of an instruction: the one check the encoding leaves, that an arithmetic
instruction's mask index is none of 0, 8 and 10, which select the other classes (30_encoding.md R101, R107).
-/
namespace Sys2Proof

/-- The mask index is one an arithmetic word can carry (30_encoding.md R107). -/
def arMaskOk (m : BitVec 4) : Bool :=
  m != 0 && m != 8 && m != 10

/-- The check of an instruction: every field of the other formats admits every value (30_encoding.md R115). -/
def Instr.wf (i : Instr) : Bool :=
  match i with
  | .br _ => true
  | .tfa _ => true
  | .sfa _ => true
  | .zfa _ => true
  | .ifa _ => true
  | .xfab _ => true
  | .skr _ => true
  | .cfab _ => true
  | .r5fa _ => true
  | .tfb _ => true
  | .sfb _ => true
  | .zfb _ => true
  | .ifb _ => true
  | .frsv _ => true
  | .zkr _ => true
  | .cfba _ => true
  | .r5fb _ => true
  | .kscan _ => true
  | .ktest _ => true
  | .waitd _ => true
  | .clridle _ => true
  | .clrfa _ => true
  | .waitbusy _ => true
  | .inckr _ => true
  | .tkr _ => true
  | .far5 _ => true
  | .fbr5 _ => true
  | .ldr5 _ => true
  | .krr5 _ => true
  | .r5kr _ => true
  | .setidle _ => true
  | .clrfb _ => true
  | .tbusy _ => true
  | .extkr _ => true
  | .xkrsr _ => true
  | .wrsv14 _ => true
  | .wrsv15 _ => true
  | .addAK m _ => arMaskOk m
  | .subAK m _ => arMaskOk m
  | .add0B m _ => arMaskOk m
  | .sub0B m _ => arMaskOk m
  | .addCK m _ => arMaskOk m
  | .subCK m _ => arMaskOk m
  | .add0D m _ => arMaskOk m
  | .sub0D m _ => arMaskOk m
  | .shlA m _ => arMaskOk m
  | .shrA m _ => arMaskOk m
  | .shlB m _ => arMaskOk m
  | .shrB m _ => arMaskOk m
  | .shlC m _ => arMaskOk m
  | .shrC m _ => arMaskOk m
  | .shlD m _ => arMaskOk m
  | .shrD m _ => arMaskOk m
  | .addAB m _ => arMaskOk m
  | .subAB m _ => arMaskOk m
  | .addCB m _ => arMaskOk m
  | .subCB m _ => arMaskOk m
  | .addCD m _ => arMaskOk m
  | .subCD m _ => arMaskOk m
  | .addAD m _ => arMaskOk m
  | .subAD m _ => arMaskOk m
  | .addAIO m _ => arMaskOk m
  | .subAIO m _ => arMaskOk m
  | .add0K m _ => arMaskOk m
  | .sub0K m _ => arMaskOk m
  | .addCIO m _ => arMaskOk m
  | .subCIO m _ => arMaskOk m
  | .addR5 m _ => arMaskOk m
  | .subR5 m _ => arMaskOk m

/-- The instruction is one some word encodes. -/
abbrev Instr.WellFormed (i : Instr) : Prop := i.wf = true

end Sys2Proof
end

