-- ==== Sys2Proof/Decode.lean ====
section
/-!
DEFINITION. The decoder, total on the 13-bit word (30_encoding.md R100 to R118), and the encoder, both written
from the spec's formats BR, FL, KY, WT and AR. A number that is no 13-bit word is rejected by name.
-/
namespace Sys2Proof

/-- Why a number is not decoded. -/
inductive DecodeError where
  /-- It has a bit above bit 12, so it is no instruction word (30_encoding.md R100). -/
  | notOneWord
deriving DecidableEq, Repr

/-- The field `b = op[7:4]` of formats FL and WT, `mh` of format KY (30_encoding.md R104 to R106). -/
def opB (w : OpWord) : BitVec 4 := w.extractLsb' 4 4

/-- The slot `n = op[3:0]` of formats FL and WT. -/
def opN (w : OpWord) : BitVec 4 := w.extractLsb' 0 4

/-- The class selector, and mask index of format AR, `op[11:8]` (30_encoding.md R101, R107). -/
def opClass (w : OpWord) : BitVec 4 := w.extractLsb' 8 4

/-- The operand index `j = op[7:3]` of format AR (30_encoding.md R107). -/
def opJ (w : OpWord) : BitVec 5 := w.extractLsb' 3 5

/-- The destination code `d = op[2:0]` of format AR (30_encoding.md R107). -/
def opD (w : OpWord) : BitVec 3 := w.extractLsb' 0 3

/-- The scan mask of format KY, `M = {op[7:4], op[2:0]}` (30_encoding.md R105). -/
def opKeyMask (w : OpWord) : KeyRow := w.extractLsb' 4 4 ++ w.extractLsb' 0 3

/-- The flag micro-operation slots (30_encoding.md R111). -/
def flagSlots : Vector (BitVec 4 → Instr) 16 :=
  #v[.tfa, .sfa, .zfa, .ifa, .xfab, .skr, .cfab, .r5fa,
     .tfb, .sfb, .zfb, .ifb, .frsv, .zkr, .cfba, .r5fb]

/-- A slot whose variant `op[4]` chooses, the low bit of b (30_encoding.md R106, R112). -/
def pairSlot (i0 i1 : BitVec 3 → Instr) (b : BitVec 4) : Instr :=
  if b.getLsbD 0 then i1 (b.extractLsb' 1 3) else i0 (b.extractLsb' 1 3)

/-- The wait-class slots (30_encoding.md R112). -/
def waitSlots : Vector (BitVec 4 → Instr) 16 :=
  #v[.waitd, .clridle, .clrfa, .waitbusy, .inckr, .tkr, pairSlot .far5 .fbr5, .ldr5,
     pairSlot .krr5 .r5kr, .setidle, .clrfb, .tbusy, .extkr, .xkrsr, .wrsv14, .wrsv15]

/-- The arithmetic instructions by operand index j (45_arithmetic.md R284). -/
def arithSlots : Vector (BitVec 4 → Dest → Instr) 32 :=
  #v[.addAK, .subAK, .add0B, .sub0B, .addCK, .subCK, .add0D, .sub0D,
     .shlA, .shrA, .shlB, .shrB, .shlC, .shrC, .shlD, .shrD,
     .addAB, .subAB, .addCB, .subCB, .addCD, .subCD, .addAD, .subAD,
     .addAIO, .subAIO, .add0K, .sub0K, .addCIO, .subCIO, .addR5, .subR5]

/-- DEST_TABLE (30_encoding.md R108). -/
def destTable : Vector Dest 8 := #v[.a, .io, .xab, .b, .c, .xcd, .d, .xae]

/-- The decoder: the class tests of R101 in their order, the first that holds decides. -/
def decode (w : OpWord) : Instr :=
  if w.getLsbD 12 then .br (w.extractLsb' 0 12)
  else if opClass w = 0 then flagSlots[(opN w).toFin] (opB w)
  else if opClass w = 8 then (if w.getLsbD 3 then .kscan (opKeyMask w) else .ktest (opKeyMask w))
  else if opClass w = 10 then waitSlots[(opN w).toFin] (opB w)
  else arithSlots[(opJ w).toFin] (opClass w) destTable[(opD w).toFin]

/-- The decoder on a number: a number of more than 13 bits is rejected by name. -/
def decodeNat (w : Nat) : Except DecodeError Instr :=
  if w < 2 ^ 13 then .ok (decode (BitVec.ofNat 13 w)) else .error .notOneWord

/-- The instruction the decoder reads from a row's word as spec/opcode_table.json numbers its bits; the bits
above nbits are zero. -/
def decodeTableWord (nbits w : Nat) : Option Instr :=
  (decodeNat (w % 2 ^ nbits)).toOption

/-- Format FL (30_encoding.md R104). -/
def encodeFL (b n : BitVec 4) : OpWord := 0#5 ++ b ++ n

/-- Format KY (30_encoding.md R105). -/
def encodeKY (mask : KeyRow) (f : BitVec 1) : OpWord :=
  8#5 ++ mask.extractLsb' 3 4 ++ f ++ mask.extractLsb' 0 3

/-- Format WT (30_encoding.md R106). -/
def encodeWT (b n : BitVec 4) : OpWord := 10#5 ++ b ++ n

/-- Format WT with a slot that op[4] splits: x is op[7:5], v is op[4] (30_encoding.md R112). -/
def encodeWTPair (x : BitVec 3) (v : BitVec 1) (n : BitVec 4) : OpWord := 10#5 ++ x ++ v ++ n

/-- The destination codes (30_encoding.md R108). -/
def Dest.code (dst : Dest) : BitVec 3 :=
  match dst with
  | .a => 0
  | .io => 1
  | .xab => 2
  | .b => 3
  | .c => 4
  | .xcd => 5
  | .d => 6
  | .xae => 7

/-- Format AR (30_encoding.md R107). -/
def encodeAR (m : BitVec 4) (j : BitVec 5) (dst : Dest) : OpWord := 0#1 ++ m ++ j ++ dst.code

/-- The word of an instruction (30_encoding.md R103 to R107, R111, R112, R120; 45_arithmetic.md R284). -/
def encode (i : Instr) : OpWord :=
  match i with
  | .br t => 1#1 ++ t
  | .tfa b => encodeFL b 0
  | .sfa b => encodeFL b 1
  | .zfa b => encodeFL b 2
  | .ifa b => encodeFL b 3
  | .xfab b => encodeFL b 4
  | .skr b => encodeFL b 5
  | .cfab b => encodeFL b 6
  | .r5fa b => encodeFL b 7
  | .tfb b => encodeFL b 8
  | .sfb b => encodeFL b 9
  | .zfb b => encodeFL b 10
  | .ifb b => encodeFL b 11
  | .frsv b => encodeFL b 12
  | .zkr b => encodeFL b 13
  | .cfba b => encodeFL b 14
  | .r5fb b => encodeFL b 15
  | .kscan mask => encodeKY mask 1
  | .ktest mask => encodeKY mask 0
  | .waitd b => encodeWT b 0
  | .clridle b => encodeWT b 1
  | .clrfa b => encodeWT b 2
  | .waitbusy b => encodeWT b 3
  | .inckr b => encodeWT b 4
  | .tkr b => encodeWT b 5
  | .far5 x => encodeWTPair x 0 6
  | .fbr5 x => encodeWTPair x 1 6
  | .ldr5 b => encodeWT b 7
  | .krr5 x => encodeWTPair x 0 8
  | .r5kr x => encodeWTPair x 1 8
  | .setidle b => encodeWT b 9
  | .clrfb b => encodeWT b 10
  | .tbusy b => encodeWT b 11
  | .extkr b => encodeWT b 12
  | .xkrsr b => encodeWT b 13
  | .wrsv14 b => encodeWT b 14
  | .wrsv15 b => encodeWT b 15
  | .addAK m dst => encodeAR m 0 dst
  | .subAK m dst => encodeAR m 1 dst
  | .add0B m dst => encodeAR m 2 dst
  | .sub0B m dst => encodeAR m 3 dst
  | .addCK m dst => encodeAR m 4 dst
  | .subCK m dst => encodeAR m 5 dst
  | .add0D m dst => encodeAR m 6 dst
  | .sub0D m dst => encodeAR m 7 dst
  | .shlA m dst => encodeAR m 8 dst
  | .shrA m dst => encodeAR m 9 dst
  | .shlB m dst => encodeAR m 10 dst
  | .shrB m dst => encodeAR m 11 dst
  | .shlC m dst => encodeAR m 12 dst
  | .shrC m dst => encodeAR m 13 dst
  | .shlD m dst => encodeAR m 14 dst
  | .shrD m dst => encodeAR m 15 dst
  | .addAB m dst => encodeAR m 16 dst
  | .subAB m dst => encodeAR m 17 dst
  | .addCB m dst => encodeAR m 18 dst
  | .subCB m dst => encodeAR m 19 dst
  | .addCD m dst => encodeAR m 20 dst
  | .subCD m dst => encodeAR m 21 dst
  | .addAD m dst => encodeAR m 22 dst
  | .subAD m dst => encodeAR m 23 dst
  | .addAIO m dst => encodeAR m 24 dst
  | .subAIO m dst => encodeAR m 25 dst
  | .add0K m dst => encodeAR m 26 dst
  | .sub0K m dst => encodeAR m 27 dst
  | .addCIO m dst => encodeAR m 28 dst
  | .subCIO m dst => encodeAR m 29 dst
  | .addR5 m dst => encodeAR m 30 dst
  | .subR5 m dst => encodeAR m 31 dst

end Sys2Proof
end

