-- ==== Sys2Proof/Config.lean ====
section
/-!
DEFINITION. What an implementation fixes: the mask descriptor, the operand entry and the machine's parameters
(00_scope.md R9, R17; 30_encoding.md R109, R110; 20_memory.md R88). The contents of the tables are in
Machine/Tables.lean.
-/
namespace Sys2Proof

/-- A mask descriptor: the window start..last, inclusive, and the constant cval injected at cpos
(00_scope.md R17; `last` is the spec's `end`). -/
structure MaskDesc where
  start : Fin 16
  last : Fin 16
  cpos : Fin 16
  cval : Digit
deriving DecidableEq, Repr

/-- A source of the ALU: absent, a digit register, or the special source R5 (30_encoding.md R110). -/
inductive Source where
  | none
  | reg (r : Reg)
  | r5
deriving DecidableEq, Repr

/-- An entry of OPERAND_TABLE: (X, Y, kind, io) (30_encoding.md R110). -/
structure OperandEntry where
  x : Source
  y : Source
  kind : Kind
  io : Bool
deriving DecidableEq, Repr

/-- The machine's parameters (00_scope.md R9): KEY_INVERT and BOOT_N, which the spec leaves OPEN, the configuration
constants MASK_TABLE and OPERAND_TABLE, and the attachment order (20_memory.md R83, R88): the numbers of the other
chips attached before the core, and of those attached after it, each list in attachment order. Log entries 8, 11,
12, 13 and 24. -/
structure Config where
  keyInvert : Bool
  bootN : Nat
  maskTable : Vector MaskDesc 16
  operandTable : Vector OperandEntry 32
  attachedBefore : List Nat
  attachedAfter : List Nat
deriving DecidableEq, Repr

/-- The other chips on the bus, in attachment order; the core stands between the two lists. -/
abbrev Config.attached (c : Config) : List Nat := c.attachedBefore ++ c.attachedAfter

/-- The descriptor has a window: start <= end (00_scope.md R17). -/
abbrev MaskDesc.HasWindow (m : MaskDesc) : Prop := m.start ≤ m.last

/-- The digit index lies in the window (00_scope.md R17). -/
abbrev MaskDesc.InWindow (m : MaskDesc) (i : Nat) : Prop := m.start.val ≤ i ∧ i ≤ m.last.val

/-- An entry of the R5-to-adder operation (45_arithmetic.md R292): X is the special source R5. -/
abbrev OperandEntry.IsR5 (e : OperandEntry) : Prop := e.x = .r5

/-- What the spec fixes of the operand table: E is never an operand, four entries take IO, two are the R5 entries
(45_arithmetic.md R284); R5 stands as X only, the one place R285 gives it a meaning in (log entry 25). -/
abbrev LegalOperands (t : Vector OperandEntry 32) : Prop :=
  (∀ j : Fin 32, t[j].x ≠ .reg .e ∧ t[j].y ≠ .reg .e ∧ t[j].y ≠ .r5) ∧
  (t.toList.filter fun e => e.io).length = 4 ∧
  (t.toList.filter fun e => decide e.IsR5).length = 2

/-- What the spec fixes of the parameters: BOOT_N is at least 1 (R9); of the mask table, the entries 0, 8 and 10
have no window, every other entry has one, and one usable entry is the window 0..15 without constant
(30_encoding.md R109, 45_arithmetic.md R283); the operand table as above; no chip is attached twice. -/
abbrev Config.Legal (c : Config) : Prop :=
  1 ≤ c.bootN ∧
  LegalOperands c.operandTable ∧
  c.attached.Nodup ∧
  (∀ i : Fin 16, (i = 0 ∨ i = 8 ∨ i = 10) → ¬ c.maskTable[i].HasWindow) ∧
  (∀ i : Fin 16, i ≠ 0 → i ≠ 8 → i ≠ 10 → c.maskTable[i].HasWindow) ∧
  (∃ i : Fin 16, c.maskTable[i].start = 0 ∧ c.maskTable[i].last = 15 ∧ c.maskTable[i].cval = 0)

end Sys2Proof
end

