-- ==== Sys2Proof/Machine/Tables.lean ====
section
/-!
DEFINITION. The reference contents of the configuration tables: MASK_TABLE (30_encoding.md R109) and
OPERAND_TABLE (45_arithmetic.md R284), and the reference parameters. The spec marks both tables as general
knowledge of the family, not of its source: log entries 12 and 13 (PRESUMED).
-/
namespace Sys2Proof

/-- The reference MASK_TABLE (30_encoding.md R109). -/
def maskTableRef : Vector MaskDesc 16 :=
  #v[⟨1, 0, 0, 0⟩,     -- flag class
     ⟨0, 15, 0, 0⟩,    -- ALL
     ⟨0, 0, 0, 0⟩,     -- DPT
     ⟨0, 0, 0, 1⟩,     -- DPT1
     ⟨0, 0, 0, 12⟩,    -- DPTC
     ⟨1, 1, 1, 1⟩,     -- LLSD1
     ⟨1, 2, 1, 0⟩,     -- EXP
     ⟨1, 2, 1, 1⟩,     -- EXP1
     ⟨1, 0, 0, 0⟩,     -- keyboard class
     ⟨3, 15, 3, 0⟩,    -- MANT
     ⟨1, 0, 0, 0⟩,     -- wait class
     ⟨3, 3, 3, 5⟩,     -- MLSD5
     ⟨1, 15, 1, 0⟩,    -- MAEX
     ⟨3, 3, 3, 1⟩,     -- MLSD1
     ⟨15, 15, 15, 1⟩,  -- MMSD1
     ⟨1, 15, 1, 1⟩]    -- MAEX1

/-- The reference OPERAND_TABLE (45_arithmetic.md R284). -/
def operandTableRef : Vector OperandEntry 32 :=
  #v[⟨.reg .a, .none, .add, false⟩,     -- A+K
     ⟨.reg .a, .none, .sub, false⟩,     -- A-K
     ⟨.none, .reg .b, .add, false⟩,     -- 0+B
     ⟨.none, .reg .b, .sub, false⟩,     -- 0-B
     ⟨.reg .c, .none, .add, false⟩,     -- C+K
     ⟨.reg .c, .none, .sub, false⟩,     -- C-K
     ⟨.none, .reg .d, .add, false⟩,     -- 0+D
     ⟨.none, .reg .d, .sub, false⟩,     -- 0-D
     ⟨.none, .reg .a, .shl, false⟩,     -- SHLA
     ⟨.none, .reg .a, .shr, false⟩,     -- SHRA
     ⟨.none, .reg .b, .shl, false⟩,     -- SHLB
     ⟨.none, .reg .b, .shr, false⟩,     -- SHRB
     ⟨.none, .reg .c, .shl, false⟩,     -- SHLC
     ⟨.none, .reg .c, .shr, false⟩,     -- SHRC
     ⟨.none, .reg .d, .shl, false⟩,     -- SHLD
     ⟨.none, .reg .d, .shr, false⟩,     -- SHRD
     ⟨.reg .a, .reg .b, .add, false⟩,   -- A+B
     ⟨.reg .a, .reg .b, .sub, false⟩,   -- A-B
     ⟨.reg .c, .reg .b, .add, false⟩,   -- C+B
     ⟨.reg .c, .reg .b, .sub, false⟩,   -- C-B
     ⟨.reg .c, .reg .d, .add, false⟩,   -- C+D
     ⟨.reg .c, .reg .d, .sub, false⟩,   -- C-D
     ⟨.reg .a, .reg .d, .add, false⟩,   -- A+D
     ⟨.reg .a, .reg .d, .sub, false⟩,   -- A-D
     ⟨.reg .a, .none, .add, true⟩,      -- A+IO
     ⟨.reg .a, .none, .sub, true⟩,      -- A-IO
     ⟨.none, .none, .add, false⟩,       -- 0+K
     ⟨.none, .none, .sub, false⟩,       -- 0-K
     ⟨.reg .c, .none, .add, true⟩,      -- C+IO
     ⟨.reg .c, .none, .sub, true⟩,      -- C-IO
     ⟨.r5, .none, .add, false⟩,         -- R5+
     ⟨.r5, .none, .sub, false⟩]         -- R5-

/-- The reference parameters: KEY_INVERT false, BOOT_N 1, the reference tables (00_scope.md R9), and one other chip,
number 0, attached before the core, as the instruction store of the test bench of 95_test_vectors.md is (log entry
24). -/
def Config.reference : Config :=
  { keyInvert := false, bootN := 1, maskTable := maskTableRef, operandTable := operandTableRef
    attachedBefore := [0], attachedAfter := [] }

end Sys2Proof
end

