-- ==== Sys2Proof/Machine/State.lean ====
section
/-!
DEFINITION. The state of the whole machine as plain data: the core's registers, flags and latches
(10_state.md R20 to R43), the bus snapshot (20_memory.md R62), the sequencer's own variables (R77), the
machine's parameters and the schedule of what the other chips do (R78). A state is the instant just before the
chips are invoked in the phase that bus.dstate, bus.sstate and bus.write name (log entry 17).
-/
namespace Sys2Proof.Machine

open Sys2Proof

/-- A fetch address: a 13-bit address, or the distinguished value STOP (10_state.md R36, 20_memory.md R66). -/
inductive FetchAddr where
  | addr (a : BitVec 13)
  | stop
deriving DecidableEq, Repr

/-- The display outputs: an opaque value, of which the spec names only BLANK, the all-zero value
(20_memory.md R68; log entry 16). -/
abbrev Display := Nat

/-- The value BLANK of the display outputs (20_memory.md R68). -/
abbrev blankDisplay : Display := 0

/-- The bus snapshot (20_memory.md R62). -/
structure Bus where
  ext : Word16
  irg : OpWord
  io : Digits
  display : Display
  keyLine : KeyRow
  dstate : BitVec 4
  sstate : BitVec 4
  write : Bool
  idle : Bool
  fetchAddr : FetchAddr
deriving DecidableEq, Repr

/-- One write of another chip to a bus field it owns (20_memory.md R71): an assignment, or an OR onto EXT
(48_coordinator.md R351, R352 give the core's own ORs; a peripheral asserts HOLD so). No chip writes dstate,
sstate or write, and none but the core writes idle. -/
inductive BusWrite where
  | ext (v : Word16)
  | orExt (v : Word16)
  | irg (v : OpWord)
  | io (v : Digits)
  | display (v : Display)
  | keyLine (v : KeyRow)
  | fetchAddr (v : FetchAddr)
deriving DecidableEq, Repr

/-- What one other chip does in one phase: its writes, in order, and whether it returns non-zero
(20_memory.md R79). -/
structure ChipAction where
  writes : List BusWrite
  nonzero : Bool
deriving DecidableEq, Repr

/-- An invocation of a chip that does nothing and returns zero. -/
abbrev ChipAction.quiet : ChipAction := { writes := [], nonzero := false }

/-- What the environment does in one phase: the action of chip n at place n of `chips`, a chip beyond the list doing
nothing; whether BUSY is set at the boundary before the core's invocation (10_state.md R35). Which chips are on the
bus, and in what order they run, is configuration (Config.attachedBefore, Config.attachedAfter). -/
structure Frame where
  chips : List ChipAction
  setBusy : Bool
deriving DecidableEq, Repr

/-- What chip n does in the phase. -/
def Frame.action (f : Frame) (n : Nat) : ChipAction := f.chips[n]?.getD ChipAction.quiet

/-- A phase in which no other chip does anything. -/
abbrev Frame.quiet : Frame := { chips := [], setBusy := false }

/-- The state of the machine. Every field but the last two is named by the spec (INVENTORY.md, State). -/
structure State where
  /-- The digit registers A to E (10_state.md R20). -/
  regA : Digits
  regB : Digits
  regC : Digits
  regD : Digits
  regE : Digits
  /-- The flag words (R23). -/
  fA : Word16
  fB : Word16
  /-- The communication register (R24, R25). -/
  kr : Word16
  /-- The scratch register (R26). -/
  sr : Word16
  /-- The one-digit scratch register (R27). -/
  r5 : Digit
  /-- The seven CPU flags (R28 to R35). -/
  idle : Bool
  hold : Bool
  jump : Bool
  ioValid : Bool
  cond : Bool
  condL : Bool
  busy : Bool
  /-- The instruction latch IL (R36). -/
  ilOp : OpWord
  ilAddr : FetchAddr
  /-- The serial-input staging latch SIN (R38). -/
  sin : Digits
  /-- The ALU output latch IOOUT (R39). -/
  ioOut : Digits
  /-- LATE, DIGIT, EXTSNAP, KEYSNAP (R40 to R42). -/
  late : Bool
  digit : BitVec 4
  extSnap : Word16
  keySnap : KeyRow
  /-- The reset counter RESETCNT (R43). -/
  resetCnt : Nat
  /-- The shared bus snapshot (20_memory.md R62). -/
  bus : Bus
  /-- The sequencer's variable `stop` of the serial-state under way (20_memory.md R77). -/
  stopReq : Bool
  /-- The run has ended (20_memory.md R80): a terminal state (60_exceptions.md R382). -/
  ended : Bool
  /-- The machine's parameters, fixed for a run (00_scope.md R9; log entry 11). -/
  cfg : Config
  /-- What the other chips do in the phases to come, one frame a phase (20_memory.md R78; log entry 7). -/
  env : List Frame
deriving DecidableEq, Repr

/-- Why the machine stops. No instruction of this hardware raises one: the core raises no exception
(60_exceptions.md R380). -/
inductive Fault where
  /-- Raised by `step` alone, in a state whose run has already ended by a stop signal (20_memory.md R80,
  60_exceptions.md R382): the sequencer's loop is over and no further phase exists. Safe: the hardware does
  nothing there either (log entry 10). -/
  | runEnded
deriving DecidableEq, Repr

/-- Why the model refuses. No instruction of this hardware is refused. -/
inductive Refusal where
  /-- Raised by an arm of `exec` whose instruction has no meaning yet; there is none. Safe: nothing is claimed
  of such an instruction. -/
  | notModelled (mnemonic : String)
deriving DecidableEq, Repr

/-- The outcome of a step or of an instruction. -/
abbrev Result := Host.Outcome State Fault Refusal

/-- The values the spec leaves unspecified at reset (10_state.md R47, 70_reset_and_hazards.md R403): every
value is legal. -/
structure PowerOn where
  regA : Digits
  regB : Digits
  regC : Digits
  regD : Digits
  regE : Digits
  fA : Word16
  fB : Word16
  sr : Word16
  r5 : Digit
  cond : Bool
  busy : Bool
  ioOut : Digits
  digit : BitVec 4
  extSnap : Word16
  keySnap : KeyRow
  ilOp : OpWord
  ilAddr : FetchAddr
  display : Display
  keyLine : KeyRow
  busIdle : Bool
  fetchAddr : FetchAddr
deriving DecidableEq, Repr

/-- The value the model names for each of them: zero. DESIGN CHOICE, unsafe: log entries 1 to 5. -/
def PowerOn.zero : PowerOn :=
  { regA := zeroDigits, regB := zeroDigits, regC := zeroDigits, regD := zeroDigits, regE := zeroDigits
    fA := 0, fB := 0, sr := 0, r5 := 0, cond := false, busy := false, ioOut := zeroDigits
    digit := 0, extSnap := 0, keySnap := 0, ilOp := 0, ilAddr := .addr 0
    display := blankDisplay, keyLine := 0, busIdle := false, fetchAddr := .addr 0 }

/-- The machine right after reset, for any parameters, any unspecified values and any behaviour of the other
chips: the values of 10_state.md R47, the sequencer at the start of digit-cycle 15 with EXT, IRG and IO zeroed
(70_reset_and_hazards.md R403). -/
def State.resetWith (cfg : Config) (p : PowerOn) (env : List Frame) : State :=
  { regA := p.regA, regB := p.regB, regC := p.regC, regD := p.regD, regE := p.regE
    fA := p.fA, fB := p.fB, kr := 0, sr := p.sr, r5 := p.r5
    idle := false, hold := false, jump := false, ioValid := false
    cond := p.cond, condL := false, busy := p.busy
    ilOp := p.ilOp, ilAddr := p.ilAddr, sin := zeroDigits, ioOut := p.ioOut
    late := false, digit := p.digit, extSnap := p.extSnap, keySnap := p.keySnap
    resetCnt := cfg.bootN
    bus := { ext := 0, irg := 0, io := zeroDigits, display := p.display, keyLine := p.keyLine
             dstate := 15, sstate := 0, write := true, idle := p.busIdle, fetchAddr := p.fetchAddr }
    stopReq := false, ended := false, cfg := cfg, env := env }

/-- The machine right after reset, with the reference parameters, the values the log names and no other chip
doing anything. -/
def State.reset : State :=
  State.resetWith Config.reference PowerOn.zero []

end Sys2Proof.Machine
end

