-- ==== Sys2Proof/Machine/Ops.lean ====
section
/-!
DEFINITION. The named operations over words, digit vectors and registers that every instruction is built from
(00_scope.md R10 to R13). The hardware has no memory, takes no exception and returns from none
(20_memory.md R61, 60_exceptions.md R380, R387), so no operation for those stands here.
-/
namespace Sys2Proof.Machine

open Sys2Proof

/-- Digit i of a vector, 0 for an index above 15 (00_scope.md R12). -/
def digitAt (R : Digits) (i : Nat) : Digit :=
  if h : i < 16 then R[i] else 0

/-- The vector with digit i replaced; unchanged for an index above 15 (00_scope.md R12). -/
def setDigit (R : Digits) (i : Nat) (v : Digit) : Digits :=
  R.setIfInBounds i v

/-- The vector the notation of 00_scope.md R11 writes as a number of sixteen hexadecimal digits. -/
def digitsOfNat (n : Nat) : Digits :=
  Vector.ofFn fun i => BitVec.ofNat 4 (n >>> (4 * i.val))

/-- Bit b of a 16-bit word. -/
def bitOf (w : Word16) (b : BitVec 4) : Bool := w.getLsbD b.toNat

/-- The word whose only set bit is bit b. -/
def bitMask (b : BitVec 4) : Word16 := 1#16 <<< b.toNat

/-- `w[b] <- 1`. -/
def setBit (w : Word16) (b : BitVec 4) : Word16 := w ||| bitMask b

/-- `w[b] <- 0`. -/
def clearBit (w : Word16) (b : BitVec 4) : Word16 := w &&& ~~~ bitMask b

/-- `w[b] <- 1 - w[b]`. -/
def invertBit (w : Word16) (b : BitVec 4) : Word16 := w ^^^ bitMask b

/-- `w[b] <- v`. -/
def putBit (w : Word16) (b : BitVec 4) (v : Bool) : Word16 :=
  if v then setBit w b else clearBit w b

/-- The nibble `w[lo+3:lo]`. -/
def nibbleAt (w : Word16) (lo : Nat) : Digit := w.extractLsb' lo 4

/-- `w[lo+3:lo] <- v`, the other twelve bits unchanged. -/
def putNibble (w : Word16) (lo : Nat) (v : Digit) : Word16 :=
  (w &&& ~~~ (0x000F#16 <<< lo)) ||| (v.setWidth 16 <<< lo)

/-- `rotr16(v, 1)` (00_scope.md R13): bit i of the result is bit (i + 1) mod 16 of v. -/
def rotr16 (v : Word16) : Word16 := v.rotateRight 1

/-- `rotl16(v, 1)` (00_scope.md R13): bit i of the result is bit (i - 1) mod 16 of v. -/
def rotl16 (v : Word16) : Word16 := v.rotateLeft 1

/-- `popcount` of a key row (00_scope.md R13). -/
def popcount (v : KeyRow) : Nat :=
  ((List.range 7).filter fun i => v.getLsbD i).length

/-- `bitindex` of a key row with one bit set: the index of that bit (00_scope.md R13). -/
def bitIndex (v : KeyRow) : BitVec 4 :=
  BitVec.ofNat 4 (((List.range 7).find? fun i => v.getLsbD i).getD 0)

/-- The value of a digit register. -/
def State.reg (s : State) (r : Reg) : Digits :=
  match r with
  | .a => s.regA
  | .b => s.regB
  | .c => s.regC
  | .d => s.regD
  | .e => s.regE

/-- Write a digit register. -/
def State.setReg (s : State) (r : Reg) (v : Digits) : State :=
  match r with
  | .a => { s with regA := v }
  | .b => { s with regB := v }
  | .c => { s with regC := v }
  | .d => { s with regD := v }
  | .e => { s with regE := v }

/-- Go on from an outcome that is a next state; a fault or a refusal stays. -/
def onNext (o : Result) (f : State → State) : Result :=
  match o with
  | .next s => .next (f s)
  | .fault r => .fault r
  | .refused r => .refused r

/-- The control result of the decoder (00_scope.md R16). -/
inductive CtrlResult where
  | completed
  | needsHold
deriving DecidableEq, Repr

end Sys2Proof.Machine
end

