-- ==== Sys2Proof/Machine/Flags.lean ====
section
/-!
DEFINITION. The flag computations: the decoder entry's re-arm of COND (41_branch.md R182), the tests that can
only clear COND (10_state.md R33), and the working sum, correction and carry of one ALU digit
(40_alu_exchange.md R147 to R149).
-/
namespace Sys2Proof.Machine

open Sys2Proof

/-- The re-arm on entry to an instruction that is not a branch marker: if JUMP is 1, JUMP <- 0 and COND <- 1
(41_branch.md R182). -/
def rearm (s : State) : State :=
  if s.jump then { s with jump := false, cond := true } else s

/-- COND <- 0 where the tested condition holds; otherwise COND is left (42_flag_ops.md R192, decision D12). -/
def clearCondIf (b : Bool) (s : State) : State :=
  if b then { s with cond := false } else s

/-- The 8-bit working sum of x and t = y + carry: x - t modulo 256 for SUB, x + t otherwise
(40_alu_exchange.md R147). -/
def workingSum (k : Kind) (x : Digit) (t : BitVec 8) : BitVec 8 :=
  match k with
  | .sub => x.setWidth 8 - t
  | .add => x.setWidth 8 + t
  | .shl => x.setWidth 8 + t
  | .shr => x.setWidth 8 + t

/-- The ten that corrects a decimal digit in carry: s + 10 for SUB, s - 10 otherwise (40_alu_exchange.md R149). -/
def correctTen (k : Kind) (s : BitVec 8) : BitVec 8 :=
  match k with
  | .sub => s + 10
  | .add => s - 10
  | .shl => s - 10
  | .shr => s - 10

/-- The carry out of digit i: at digit 0 the sum is binary and carries from 16 on (40_alu_exchange.md R148); at
digits 1 to 15 it carries from 10 on (R149). -/
def digitCarry (i : Nat) (s : BitVec 8) : Bool :=
  if i = 0 then decide (16 ≤ s.toNat) else decide (10 ≤ s.toNat)

/-- The corrected value of digit i, modulo 16 (40_alu_exchange.md R148, R149). -/
def digitValue (k : Kind) (i : Nat) (s : BitVec 8) : Digit :=
  if i = 0 then s.setWidth 4
  else if 10 ≤ s.toNat then (correctTen k s).setWidth 4
  else s.setWidth 4

/-- The kinds whose carry out of the window clears COND (40_alu_exchange.md R153). -/
def isAddSub (k : Kind) : Bool :=
  match k with
  | .add => true
  | .sub => true
  | .shl => false
  | .shr => false

end Sys2Proof.Machine
end

