-- ==== Sys2Proof/Machine/Operands.lean ====
section
/-!
DEFINITION. The operand forms: the sources of the ALU pass and its destinations (45_arithmetic.md R285 to R292),
the mask of an instruction (R282), the second operand of a digit (40_alu_exchange.md R143 to R145), and the view
of the key line (43_keyboard.md R222).
-/
namespace Sys2Proof.Machine

open Sys2Proof

/-- The mask descriptor of a mask index: MASK_TABLE of the machine's parameters (45_arithmetic.md R282). -/
def State.mask (s : State) (mi : BitVec 4) : MaskDesc :=
  s.cfg.maskTable[mi.toFin]

/-- The temporary vector T of R5-to-adder: R5 at the window's first digit and 0 elsewhere; 0^16 for a descriptor
without a window (45_arithmetic.md R285, R292). -/
def r5Vector (m : MaskDesc) (r5 : Digit) : Digits :=
  if m.start ≤ m.last then setDigit zeroDigits m.start.val r5 else zeroDigits

/-- The value of a source; an absent operand counts as zeros (40_alu_exchange.md R143). -/
def State.source (s : State) (m : MaskDesc) (src : Source) : Digits :=
  match src with
  | .none => zeroDigits
  | .reg r => s.reg r
  | .r5 => r5Vector m s.r5

/-- Where a pass writes: nowhere, a digit register, or the latch IOOUT (40_alu_exchange.md R140). -/
inductive Target where
  | none
  | reg (r : Reg)
  | ioOut
deriving DecidableEq, Repr

/-- The destination of the pass for a destination code (30_encoding.md R108, 45_arithmetic.md R286 to R288). -/
def targetOf (dst : Dest) : Target :=
  match dst with
  | .a => .reg .a
  | .io => .ioOut
  | .xab => .none
  | .b => .reg .b
  | .c => .reg .c
  | .xcd => .none
  | .d => .reg .d
  | .xae => .none

/-- The registers exchanged after the pass for a destination code (45_arithmetic.md R290). -/
def exchangedBy (dst : Dest) : Option (Reg × Reg) :=
  match dst with
  | .a => Option.none
  | .io => Option.none
  | .xab => some (.a, .b)
  | .b => Option.none
  | .c => Option.none
  | .xcd => some (.c, .d)
  | .d => Option.none
  | .xae => some (.a, .e)

/-- The present contents of a pass's destination; a pass without one has nothing to keep. -/
def State.targetValue (s : State) (t : Target) : Digits :=
  match t with
  | .none => zeroDigits
  | .reg r => s.reg r
  | .ioOut => s.ioOut

/-- Write a pass's destination; a pass without one writes nothing (40_alu_exchange.md R155). -/
def State.setTarget (s : State) (t : Target) (v : Digits) : State :=
  match t with
  | .none => s
  | .reg r => s.setReg r v
  | .ioOut => { s with ioOut := v }

/-- The serial input the ALU sees at digit i: SIN while IOVALID is 0, nothing while it is 1
(40_alu_exchange.md R144). -/
def State.serialIn (s : State) (i : Nat) : Digit :=
  if s.ioValid then 0 else digitAt s.sin i

/-- The constant a mask injects at digit i (40_alu_exchange.md R145). -/
def constAt (m : MaskDesc) (i : Nat) : Digit :=
  if i = m.cpos.val then m.cval else 0

/-- The second operand at digit i before the carry is added: Y ORed with the serial input and the constant
(40_alu_exchange.md R143 to R146). -/
def State.secondOperand (s : State) (m : MaskDesc) (Y : Digits) (i : Nat) : Digit :=
  digitAt Y i ||| s.serialIn i ||| constAt m i

/-- The polarity-normalised key snapshot: a set bit is a pressed key (43_keyboard.md R222). -/
def State.keys (s : State) : KeyRow :=
  if s.cfg.keyInvert then ~~~ s.keySnap else s.keySnap

/-- The view of the key snapshot under a scan mask: more than one key counts as none (43_keyboard.md R222). -/
def State.keyView (s : State) (mask : KeyRow) : KeyRow :=
  if popcount (s.keys &&& mask) > 1 then 0 else s.keys &&& mask

/-- A key is seen (43_keyboard.md R222). -/
def State.keyHit (s : State) (mask : KeyRow) : Bool :=
  s.keyView mask != 0

end Sys2Proof.Machine
end

