-- ==== Sys2Proof/Machine/Alu.lean ====
section
/-!
DEFINITION. The two data-path primitives: the ALU pass, digit by digit as the block of 40_alu_exchange.md R141
writes it, and the exchange (R160); and over them the dispatch every arithmetic instruction calls
(45_arithmetic.md R285). The pass reads copies of its operands, which R157 allows.
-/
namespace Sys2Proof.Machine

open Sys2Proof

/-- What a pass has computed so far: the running carry, the shift-left accumulator, and the destination, R5 and
COND as they stand (40_alu_exchange.md R141). -/
structure Pass where
  carry : Bool
  shl : Digit
  dest : Digits
  r5 : Digit
  cond : Bool
deriving DecidableEq, Repr

/-- The destination after digit i: ADD and SUB write the corrected value, SHL the previous digit's, SHR the
pre-carry value one digit down and 0 at the window's end (40_alu_exchange.md R150, R152, R154). -/
def writeDigit (k : Kind) (m : MaskDesc) (i : Nat) (v shl shr : Digit) (D : Digits) : Digits :=
  match k with
  | .add => setDigit D i v
  | .sub => setDigit D i v
  | .shl => setDigit D i shl
  | .shr =>
    let D1 := if m.start.val < i then setDigit D (i - 1) shr else D
    if i = m.last.val then setDigit D1 i 0 else D1

/-- One iteration of the loop of R141, at digit i, with x and y the digits of the first and the second operand
(y before the carry). -/
def passDigit (k : Kind) (m : MaskDesc) (x y : Digit) (i : Nat) (p : Pass) : Pass :=
  let carry := if i = m.start.val then false else p.carry
  let shl := if i = m.start.val then 0 else p.shl
  let s := workingSum k x (y.setWidth 8 + if carry then 1 else 0)
  let c := digitCarry i s
  let v := digitValue k i s
  if m.InWindow i then
    { carry := c
      shl := if k = .shl then v else shl
      dest := writeDigit k m i v shl y p.dest
      r5 := if i = m.start.val then v else p.r5
      cond := if i = m.last.val ∧ isAddSub k = true ∧ c = true then false else p.cond }
  else { p with carry := c, shl := shl }

/-- The first n iterations of the loop of R141. -/
def passUpto (k : Kind) (m : MaskDesc) (X Y : Nat → Digit) (p0 : Pass) (n : Nat) : Pass :=
  match n with
  | 0 => p0
  | n + 1 => passDigit k m (X n) (Y n) n (passUpto k m X Y p0 n)

/-- The ALU pass `ALU(kind, X, Y, dest, m)` (40_alu_exchange.md R141). A descriptor without a window changes
nothing at all (R156). -/
def alu (k : Kind) (X Y : Digits) (t : Target) (m : MaskDesc) (s : State) : State :=
  if m.last < m.start then s
  else
    let p := passUpto k m (digitAt X) (s.secondOperand m Y)
      { carry := false, shl := 0, dest := s.targetValue t, r5 := s.r5, cond := s.cond } 16
    { s.setTarget t p.dest with r5 := p.r5, cond := p.cond }

/-- P with the window's digits taken from Q. -/
def mergeWindow (m : MaskDesc) (P Q : Digits) : Digits :=
  Vector.ofFn fun i => if m.InWindow i.val then Q[i] else P[i]

/-- `Exchange(P, Q, m)`: a digit-for-digit swap of two registers over the window (40_alu_exchange.md R160). -/
def exchange (p q : Reg) (m : MaskDesc) (s : State) : State :=
  let P := s.reg p
  let Q := s.reg q
  (s.setReg p (mergeWindow m P Q)).setReg q (mergeWindow m Q P)

/-- The steps of an arithmetic instruction around its pass, for given operand vectors (45_arithmetic.md R285,
R288, R290): IOOUT is cleared before a pass to IO, IOVALID is set after it, and an exchange code exchanges over
the same mask. -/
def arithOn (k : Kind) (X Y : Digits) (m : MaskDesc) (dst : Dest) (s : State) : State :=
  let s0 := if dst = .io then { s with ioOut := zeroDigits } else s
  let s1 := alu k X Y (targetOf dst) m s0
  let s2 := if dst = .io then { s1 with ioValid := true } else s1
  match exchangedBy dst with
  | none => s2
  | some (p, q) => exchange p q m s2

/-- An arithmetic instruction, after the decoder's re-arm: kind and sources of its operand entry, mask index and
destination code (45_arithmetic.md R285). The special source R5 as X is passed as Y, with X absent (R292). -/
def arith (k : Kind) (x y : Source) (mi : BitVec 4) (dst : Dest) (s : State) : State :=
  let m := s.mask mi
  match x with
  | .r5 => arithOn k zeroDigits (s.source m .r5) m dst s
  | .none => arithOn k zeroDigits (s.source m y) m dst s
  | .reg r => arithOn k (s.reg r) (s.source m y) m dst s

/-- The dispatch of R285 whole: the arithmetic instruction of operand index j, its kind and sources read from
OPERAND_TABLE of the machine's parameters (30_encoding.md R110, 45_arithmetic.md R284). -/
def arithEntry (j : Fin 32) (mi : BitVec 4) (dst : Dest) (s : State) : State :=
  let e := s.cfg.operandTable[j]
  arith e.kind e.x e.y mi dst s

end Sys2Proof.Machine
end

