-- ==== Sys2Proof/Machine/Arith.lean ====
section
/-!
DEFINITION. The 32 arithmetic instructions, one per operand entry (45_arithmetic.md R300 to R331): each re-arms on entry
(41_branch.md R182) and is one dispatch of R285 with the kind and the sources that OPERAND_TABLE of the machine's
parameters gives its entry; the instructions are named after the entries of the reference table. The IO entries
run late, with SIN loaded (R289).
-/
namespace Sys2Proof.Machine

open Sys2Proof

/-- AR A+K, operand entry 0: with the reference table ALU(ADD, A, none, dest, m) (45_arithmetic.md R300). -/
def execAddAK (m : BitVec 4) (dst : Dest) (s : State) : Result :=
  .next (arithEntry 0 m dst (rearm s))

/-- AR A-K, operand entry 1: with the reference table ALU(SUB, A, none, dest, m) (45_arithmetic.md R301). -/
def execSubAK (m : BitVec 4) (dst : Dest) (s : State) : Result :=
  .next (arithEntry 1 m dst (rearm s))

/-- AR 0+B, operand entry 2: with the reference table ALU(ADD, none, B, dest, m) (45_arithmetic.md R302). -/
def execAdd0B (m : BitVec 4) (dst : Dest) (s : State) : Result :=
  .next (arithEntry 2 m dst (rearm s))

/-- AR 0-B, operand entry 3: with the reference table ALU(SUB, none, B, dest, m) (45_arithmetic.md R303). -/
def execSub0B (m : BitVec 4) (dst : Dest) (s : State) : Result :=
  .next (arithEntry 3 m dst (rearm s))

/-- AR C+K, operand entry 4: with the reference table ALU(ADD, C, none, dest, m) (45_arithmetic.md R304). -/
def execAddCK (m : BitVec 4) (dst : Dest) (s : State) : Result :=
  .next (arithEntry 4 m dst (rearm s))

/-- AR C-K, operand entry 5: with the reference table ALU(SUB, C, none, dest, m) (45_arithmetic.md R305). -/
def execSubCK (m : BitVec 4) (dst : Dest) (s : State) : Result :=
  .next (arithEntry 5 m dst (rearm s))

/-- AR 0+D, operand entry 6: with the reference table ALU(ADD, none, D, dest, m) (45_arithmetic.md R306). -/
def execAdd0D (m : BitVec 4) (dst : Dest) (s : State) : Result :=
  .next (arithEntry 6 m dst (rearm s))

/-- AR 0-D, operand entry 7: with the reference table ALU(SUB, none, D, dest, m) (45_arithmetic.md R307). -/
def execSub0D (m : BitVec 4) (dst : Dest) (s : State) : Result :=
  .next (arithEntry 7 m dst (rearm s))

/-- AR SHLA, operand entry 8: with the reference table ALU(SHL, none, A, dest, m) (45_arithmetic.md R308). -/
def execShlA (m : BitVec 4) (dst : Dest) (s : State) : Result :=
  .next (arithEntry 8 m dst (rearm s))

/-- AR SHRA, operand entry 9: with the reference table ALU(SHR, none, A, dest, m) (45_arithmetic.md R309). -/
def execShrA (m : BitVec 4) (dst : Dest) (s : State) : Result :=
  .next (arithEntry 9 m dst (rearm s))

/-- AR SHLB, operand entry 10: with the reference table ALU(SHL, none, B, dest, m) (45_arithmetic.md R310). -/
def execShlB (m : BitVec 4) (dst : Dest) (s : State) : Result :=
  .next (arithEntry 10 m dst (rearm s))

/-- AR SHRB, operand entry 11: with the reference table ALU(SHR, none, B, dest, m) (45_arithmetic.md R311). -/
def execShrB (m : BitVec 4) (dst : Dest) (s : State) : Result :=
  .next (arithEntry 11 m dst (rearm s))

/-- AR SHLC, operand entry 12: with the reference table ALU(SHL, none, C, dest, m) (45_arithmetic.md R312). -/
def execShlC (m : BitVec 4) (dst : Dest) (s : State) : Result :=
  .next (arithEntry 12 m dst (rearm s))

/-- AR SHRC, operand entry 13: with the reference table ALU(SHR, none, C, dest, m) (45_arithmetic.md R313). -/
def execShrC (m : BitVec 4) (dst : Dest) (s : State) : Result :=
  .next (arithEntry 13 m dst (rearm s))

/-- AR SHLD, operand entry 14: with the reference table ALU(SHL, none, D, dest, m) (45_arithmetic.md R314). -/
def execShlD (m : BitVec 4) (dst : Dest) (s : State) : Result :=
  .next (arithEntry 14 m dst (rearm s))

/-- AR SHRD, operand entry 15: with the reference table ALU(SHR, none, D, dest, m) (45_arithmetic.md R315). -/
def execShrD (m : BitVec 4) (dst : Dest) (s : State) : Result :=
  .next (arithEntry 15 m dst (rearm s))

/-- AR A+B, operand entry 16: with the reference table ALU(ADD, A, B, dest, m) (45_arithmetic.md R316). -/
def execAddAB (m : BitVec 4) (dst : Dest) (s : State) : Result :=
  .next (arithEntry 16 m dst (rearm s))

/-- AR A-B, operand entry 17: with the reference table ALU(SUB, A, B, dest, m) (45_arithmetic.md R317). -/
def execSubAB (m : BitVec 4) (dst : Dest) (s : State) : Result :=
  .next (arithEntry 17 m dst (rearm s))

/-- AR C+B, operand entry 18: with the reference table ALU(ADD, C, B, dest, m) (45_arithmetic.md R318). -/
def execAddCB (m : BitVec 4) (dst : Dest) (s : State) : Result :=
  .next (arithEntry 18 m dst (rearm s))

/-- AR C-B, operand entry 19: with the reference table ALU(SUB, C, B, dest, m) (45_arithmetic.md R319). -/
def execSubCB (m : BitVec 4) (dst : Dest) (s : State) : Result :=
  .next (arithEntry 19 m dst (rearm s))

/-- AR C+D, operand entry 20: with the reference table ALU(ADD, C, D, dest, m) (45_arithmetic.md R320). -/
def execAddCD (m : BitVec 4) (dst : Dest) (s : State) : Result :=
  .next (arithEntry 20 m dst (rearm s))

/-- AR C-D, operand entry 21: with the reference table ALU(SUB, C, D, dest, m) (45_arithmetic.md R321). -/
def execSubCD (m : BitVec 4) (dst : Dest) (s : State) : Result :=
  .next (arithEntry 21 m dst (rearm s))

/-- AR A+D, operand entry 22: with the reference table ALU(ADD, A, D, dest, m) (45_arithmetic.md R322). -/
def execAddAD (m : BitVec 4) (dst : Dest) (s : State) : Result :=
  .next (arithEntry 22 m dst (rearm s))

/-- AR A-D, operand entry 23: with the reference table ALU(SUB, A, D, dest, m) (45_arithmetic.md R323). -/
def execSubAD (m : BitVec 4) (dst : Dest) (s : State) : Result :=
  .next (arithEntry 23 m dst (rearm s))

/-- AR A+IO, operand entry 24: with the reference table ALU(ADD, A, none, dest, m) executed late with SIN =
bus.io (45_arithmetic.md R324). -/
def execAddAIO (m : BitVec 4) (dst : Dest) (s : State) : Result :=
  .next (arithEntry 24 m dst (rearm s))

/-- AR A-IO, operand entry 25: with the reference table ALU(SUB, A, none, dest, m) executed late with SIN =
bus.io (45_arithmetic.md R325). -/
def execSubAIO (m : BitVec 4) (dst : Dest) (s : State) : Result :=
  .next (arithEntry 25 m dst (rearm s))

/-- AR 0+K, operand entry 26: with the reference table ALU(ADD, none, none, dest, m) (45_arithmetic.md R326). -/
def execAdd0K (m : BitVec 4) (dst : Dest) (s : State) : Result :=
  .next (arithEntry 26 m dst (rearm s))

/-- AR 0-K, operand entry 27: with the reference table ALU(SUB, none, none, dest, m) (45_arithmetic.md R327). -/
def execSub0K (m : BitVec 4) (dst : Dest) (s : State) : Result :=
  .next (arithEntry 27 m dst (rearm s))

/-- AR C+IO, operand entry 28: with the reference table ALU(ADD, C, none, dest, m) executed late with SIN =
bus.io (45_arithmetic.md R328). -/
def execAddCIO (m : BitVec 4) (dst : Dest) (s : State) : Result :=
  .next (arithEntry 28 m dst (rearm s))

/-- AR C-IO, operand entry 29: with the reference table ALU(SUB, C, none, dest, m) executed late with SIN =
bus.io (45_arithmetic.md R329). -/
def execSubCIO (m : BitVec 4) (dst : Dest) (s : State) : Result :=
  .next (arithEntry 29 m dst (rearm s))

/-- AR R5+, operand entry 30: with the reference table ALU(ADD, none, T, dest, m) with T[m.start] = R5
(45_arithmetic.md R330). -/
def execAddR5 (m : BitVec 4) (dst : Dest) (s : State) : Result :=
  .next (arithEntry 30 m dst (rearm s))

/-- AR R5-, operand entry 31: with the reference table ALU(SUB, none, T, dest, m) with T[m.start] = R5
(45_arithmetic.md R331). -/
def execSubR5 (m : BitVec 4) (dst : Dest) (s : State) : Result :=
  .next (arithEntry 31 m dst (rearm s))

end Sys2Proof.Machine
end

