-- ==== Sys2Proof/Machine/Branch.lean ====
section
/-!
DEFINITION. The branch class: the branch marker (41_branch.md R181).
-/
namespace Sys2Proof.Machine

open Sys2Proof

/-- BR x: JUMP <- 1 and no other effect; no re-arm inside a chain (41_branch.md R181, R182). -/
def execBr (s : State) : Result :=
  .next { s with jump := true }

end Sys2Proof.Machine
end

