-- ==== Sys2Proof/Machine/FlagOps.lean ====
section
/-!
DEFINITION. The flag micro-operations (42_flag_ops.md R190 to R207): each re-arms on entry (41_branch.md R182), completes,
and never sets HOLD.
-/
namespace Sys2Proof.Machine

open Sys2Proof

/-- TFA: if fA[b] = 1: COND <- 0 (42_flag_ops.md R192). -/
def execTfa (b : BitVec 4) (s : State) : Result :=
  let s := rearm s
  .next (clearCondIf (bitOf s.fA b) s)

/-- SFA: fA[b] <- 1 (42_flag_ops.md R193). -/
def execSfa (b : BitVec 4) (s : State) : Result :=
  let s := rearm s
  .next { s with fA := setBit s.fA b }

/-- ZFA: fA[b] <- 0 (42_flag_ops.md R194). -/
def execZfa (b : BitVec 4) (s : State) : Result :=
  let s := rearm s
  .next { s with fA := clearBit s.fA b }

/-- IFA: fA[b] <- 1 - fA[b] (42_flag_ops.md R195). -/
def execIfa (b : BitVec 4) (s : State) : Result :=
  let s := rearm s
  .next { s with fA := invertBit s.fA b }

/-- XFAB: fA[b] <-> fB[b] (42_flag_ops.md R196). -/
def execXfab (b : BitVec 4) (s : State) : Result :=
  let s := rearm s
  .next { s with fA := putBit s.fA b (bitOf s.fB b), fB := putBit s.fB b (bitOf s.fA b) }

/-- SKR: KR[b] <- 1 (42_flag_ops.md R206). -/
def execSkr (b : BitVec 4) (s : State) : Result :=
  let s := rearm s
  .next { s with kr := setBit s.kr b }

/-- CFAB: fB[b] <- fA[b] (42_flag_ops.md R197). -/
def execCfab (b : BitVec 4) (s : State) : Result :=
  let s := rearm s
  .next { s with fB := putBit s.fB b (bitOf s.fA b) }

/-- R5FA: fA[4:1] <- R5; b is ignored (42_flag_ops.md R198). -/
def execR5fa (s : State) : Result :=
  let s := rearm s
  .next { s with fA := putNibble s.fA 1 s.r5 }

/-- TFB: if fB[b] = 1: COND <- 0 (42_flag_ops.md R199). -/
def execTfb (b : BitVec 4) (s : State) : Result :=
  let s := rearm s
  .next (clearCondIf (bitOf s.fB b) s)

/-- SFB: fB[b] <- 1 (42_flag_ops.md R200). -/
def execSfb (b : BitVec 4) (s : State) : Result :=
  let s := rearm s
  .next { s with fB := setBit s.fB b }

/-- ZFB: fB[b] <- 0 (42_flag_ops.md R201). -/
def execZfb (b : BitVec 4) (s : State) : Result :=
  let s := rearm s
  .next { s with fB := clearBit s.fB b }

/-- IFB: fB[b] <- 1 - fB[b] (42_flag_ops.md R202). -/
def execIfb (b : BitVec 4) (s : State) : Result :=
  let s := rearm s
  .next { s with fB := invertBit s.fB b }

/-- FRSV: the reserved slot, a no-operation but for the re-arm (93_implementation_defined.md U1) (42_flag_ops.md R203). -/
def execFrsv (s : State) : Result :=
  .next (rearm s)

/-- ZKR: KR[b] <- 0 (42_flag_ops.md R207). -/
def execZkr (b : BitVec 4) (s : State) : Result :=
  let s := rearm s
  .next { s with kr := clearBit s.kr b }

/-- CFBA: fA[b] <- fB[b] (42_flag_ops.md R204). -/
def execCfba (b : BitVec 4) (s : State) : Result :=
  let s := rearm s
  .next { s with fA := putBit s.fA b (bitOf s.fB b) }

/-- R5FB: fB[4:1] <- R5; b is ignored (42_flag_ops.md R205). -/
def execR5fb (s : State) : Result :=
  let s := rearm s
  .next { s with fB := putNibble s.fB 1 s.r5 }

end Sys2Proof.Machine
end

