-- ==== Sys2Proof/Machine/Keyboard.lean ====
section
/-!
DEFINITION. The keyboard class (43_keyboard.md R220 to R229).
-/
namespace Sys2Proof.Machine

open Sys2Proof

/-- The key code a hit loads into KR: DIGIT in bits 11..8, the bit index in bits 7..4, the rest 0
(43_keyboard.md R224). -/
def keyCode (digit : BitVec 4) (view : KeyRow) : Word16 :=
  (digit.setWidth 16 <<< 8) ||| ((bitIndex view).setWidth 16 <<< 4)

/-- The full scan after the re-arm, with its control result: a hit clears COND and loads KR; a miss with DIGIT not
0 sets HOLD and needs a retry; a miss at DIGIT 0 completes with no effect (43_keyboard.md R223 to R225). -/
def fullScan (mask : KeyRow) (s : State) : State × CtrlResult :=
  if s.keyHit mask then ({ s with cond := false, kr := keyCode s.digit (s.keyView mask) }, .completed)
  else if s.digit ≠ 0 then ({ s with hold := true }, .needsHold)
  else (s, .completed)

/-- KSCAN M (43_keyboard.md R223). -/
def execKscan (mask : KeyRow) (s : State) : Result :=
  .next (fullScan mask (rearm s)).1

/-- KTEST M: a hit clears COND (43_keyboard.md R227). -/
def execKtest (mask : KeyRow) (s : State) : Result :=
  let s := rearm s
  .next (clearCondIf (s.keyHit mask) s)

end Sys2Proof.Machine
end

