-- ==== Sys2Proof/Machine/WaitOps.lean ====
section
/-!
DEFINITION. The wait class (44_wait_ops.md R240 to R262): each re-arms on entry (41_branch.md R182).
-/
namespace Sys2Proof.Machine

open Sys2Proof

/-- Wait for digit-cycle b after the re-arm, with its control result (44_wait_ops.md R242). -/
def waitDigit (b : BitVec 4) (s : State) : State × CtrlResult :=
  if s.digit ≠ b then ({ s with hold := true }, .needsHold) else (s, .completed)

/-- KR + 0x0010 modulo 2^16, with bit 0 inverted when the field KR[15:4] wrapped to 0 (44_wait_ops.md R246). -/
def incrementKr (kr : Word16) : Word16 :=
  let k := kr + 0x0010#16
  if k.extractLsb' 4 12 = 0 then k ^^^ 1#16 else k

/-- WAITD: HOLD and retry while DIGIT is not b (44_wait_ops.md R242). -/
def execWaitd (b : BitVec 4) (s : State) : Result :=
  .next (waitDigit b (rearm s)).1

/-- CLRIDLE: IDLE <- 0 (44_wait_ops.md R243). -/
def execClridle (s : State) : Result :=
  .next { rearm s with idle := false }

/-- CLRFA: fA <- 0x0000 (44_wait_ops.md R244). -/
def execClrfa (s : State) : Result :=
  .next { rearm s with fA := 0 }

/-- WAITBUSY: unimplemented in the source, a no-operation but for the re-arm; it does not read BUSY
(93_implementation_defined.md U2) (44_wait_ops.md R245). -/
def execWaitbusy (s : State) : Result :=
  .next (rearm s)

/-- INCKR: increment the payload field of KR (44_wait_ops.md R246). -/
def execInckr (s : State) : Result :=
  let s := rearm s
  .next { s with kr := incrementKr s.kr }

/-- TKR: if KR[b] = 1: COND <- 0 (44_wait_ops.md R247). -/
def execTkr (b : BitVec 4) (s : State) : Result :=
  let s := rearm s
  .next (clearCondIf (bitOf s.kr b) s)

/-- FAR5: R5 <- fA[4:1] (44_wait_ops.md R248). -/
def execFar5 (s : State) : Result :=
  let s := rearm s
  .next { s with r5 := nibbleAt s.fA 1 }

/-- FBR5: R5 <- fB[4:1] (44_wait_ops.md R249). -/
def execFbr5 (s : State) : Result :=
  let s := rearm s
  .next { s with r5 := nibbleAt s.fB 1 }

/-- LDR5: R5 <- b (44_wait_ops.md R250). -/
def execLdr5 (b : BitVec 4) (s : State) : Result :=
  .next { rearm s with r5 := b }

/-- KRR5: R5 <- KR[7:4] (44_wait_ops.md R251). -/
def execKrr5 (s : State) : Result :=
  let s := rearm s
  .next { s with r5 := nibbleAt s.kr 4 }

/-- R5KR: KR[7:4] <- R5 (44_wait_ops.md R252). -/
def execR5kr (s : State) : Result :=
  let s := rearm s
  .next { s with kr := putNibble s.kr 4 s.r5 }

/-- SETIDLE: IDLE <- 1 (44_wait_ops.md R254). -/
def execSetidle (s : State) : Result :=
  .next { rearm s with idle := true }

/-- CLRFB: fB <- 0x0000 (44_wait_ops.md R255). -/
def execClrfb (s : State) : Result :=
  .next { rearm s with fB := 0 }

/-- TBUSY: if BUSY = 1 or a key of the row is down: COND <- 0, BUSY <- 0 (44_wait_ops.md R256). -/
def execTbusy (s : State) : Result :=
  let s := rearm s
  .next (if s.busy = true ∨ s.keys ≠ 0 then { s with cond := false, busy := false } else s)

/-- EXTKR: KR <- rotl16(bus.ext, 1), the live bus field (44_wait_ops.md R257). -/
def execExtkr (s : State) : Result :=
  let s := rearm s
  .next { s with kr := rotl16 s.bus.ext }

/-- XKRSR: KR <-> SR (44_wait_ops.md R258). -/
def execXkrsr (s : State) : Result :=
  let s := rearm s
  .next { s with kr := s.sr, sr := s.kr }

/-- WRSV14: reserved peripheral slot, a no-operation but for the re-arm (93_implementation_defined.md U3) (44_wait_ops.md R259). -/
def execWrsv14 (s : State) : Result :=
  .next (rearm s)

/-- WRSV15: reserved peripheral slot, a no-operation but for the re-arm (93_implementation_defined.md U4) (44_wait_ops.md R260). -/
def execWrsv15 (s : State) : Result :=
  .next (rearm s)

end Sys2Proof.Machine
end

