-- ==== Sys2Proof/Machine/Dispatch.lean ====
section
/-!
DEFINITION. The dispatch: one arm per constructor of Instr, each one direct call of its meaning.
-/
namespace Sys2Proof.Machine

open Sys2Proof

def exec (i : Instr) (s : State) : Host.Outcome State Fault Refusal :=
  match i with
  | .br _ => Sys2Proof.Machine.execBr s
  | .tfa b => Sys2Proof.Machine.execTfa b s
  | .sfa b => Sys2Proof.Machine.execSfa b s
  | .zfa b => Sys2Proof.Machine.execZfa b s
  | .ifa b => Sys2Proof.Machine.execIfa b s
  | .xfab b => Sys2Proof.Machine.execXfab b s
  | .skr b => Sys2Proof.Machine.execSkr b s
  | .cfab b => Sys2Proof.Machine.execCfab b s
  | .r5fa _ => Sys2Proof.Machine.execR5fa s
  | .tfb b => Sys2Proof.Machine.execTfb b s
  | .sfb b => Sys2Proof.Machine.execSfb b s
  | .zfb b => Sys2Proof.Machine.execZfb b s
  | .ifb b => Sys2Proof.Machine.execIfb b s
  | .frsv _ => Sys2Proof.Machine.execFrsv s
  | .zkr b => Sys2Proof.Machine.execZkr b s
  | .cfba b => Sys2Proof.Machine.execCfba b s
  | .r5fb _ => Sys2Proof.Machine.execR5fb s
  | .kscan mask => Sys2Proof.Machine.execKscan mask s
  | .ktest mask => Sys2Proof.Machine.execKtest mask s
  | .waitd b => Sys2Proof.Machine.execWaitd b s
  | .clridle _ => Sys2Proof.Machine.execClridle s
  | .clrfa _ => Sys2Proof.Machine.execClrfa s
  | .waitbusy _ => Sys2Proof.Machine.execWaitbusy s
  | .inckr _ => Sys2Proof.Machine.execInckr s
  | .tkr b => Sys2Proof.Machine.execTkr b s
  | .far5 _ => Sys2Proof.Machine.execFar5 s
  | .fbr5 _ => Sys2Proof.Machine.execFbr5 s
  | .ldr5 b => Sys2Proof.Machine.execLdr5 b s
  | .krr5 _ => Sys2Proof.Machine.execKrr5 s
  | .r5kr _ => Sys2Proof.Machine.execR5kr s
  | .setidle _ => Sys2Proof.Machine.execSetidle s
  | .clrfb _ => Sys2Proof.Machine.execClrfb s
  | .tbusy _ => Sys2Proof.Machine.execTbusy s
  | .extkr _ => Sys2Proof.Machine.execExtkr s
  | .xkrsr _ => Sys2Proof.Machine.execXkrsr s
  | .wrsv14 _ => Sys2Proof.Machine.execWrsv14 s
  | .wrsv15 _ => Sys2Proof.Machine.execWrsv15 s
  | .addAK m dst => Sys2Proof.Machine.execAddAK m dst s
  | .subAK m dst => Sys2Proof.Machine.execSubAK m dst s
  | .add0B m dst => Sys2Proof.Machine.execAdd0B m dst s
  | .sub0B m dst => Sys2Proof.Machine.execSub0B m dst s
  | .addCK m dst => Sys2Proof.Machine.execAddCK m dst s
  | .subCK m dst => Sys2Proof.Machine.execSubCK m dst s
  | .add0D m dst => Sys2Proof.Machine.execAdd0D m dst s
  | .sub0D m dst => Sys2Proof.Machine.execSub0D m dst s
  | .shlA m dst => Sys2Proof.Machine.execShlA m dst s
  | .shrA m dst => Sys2Proof.Machine.execShrA m dst s
  | .shlB m dst => Sys2Proof.Machine.execShlB m dst s
  | .shrB m dst => Sys2Proof.Machine.execShrB m dst s
  | .shlC m dst => Sys2Proof.Machine.execShlC m dst s
  | .shrC m dst => Sys2Proof.Machine.execShrC m dst s
  | .shlD m dst => Sys2Proof.Machine.execShlD m dst s
  | .shrD m dst => Sys2Proof.Machine.execShrD m dst s
  | .addAB m dst => Sys2Proof.Machine.execAddAB m dst s
  | .subAB m dst => Sys2Proof.Machine.execSubAB m dst s
  | .addCB m dst => Sys2Proof.Machine.execAddCB m dst s
  | .subCB m dst => Sys2Proof.Machine.execSubCB m dst s
  | .addCD m dst => Sys2Proof.Machine.execAddCD m dst s
  | .subCD m dst => Sys2Proof.Machine.execSubCD m dst s
  | .addAD m dst => Sys2Proof.Machine.execAddAD m dst s
  | .subAD m dst => Sys2Proof.Machine.execSubAD m dst s
  | .addAIO m dst => Sys2Proof.Machine.execAddAIO m dst s
  | .subAIO m dst => Sys2Proof.Machine.execSubAIO m dst s
  | .add0K m dst => Sys2Proof.Machine.execAdd0K m dst s
  | .sub0K m dst => Sys2Proof.Machine.execSub0K m dst s
  | .addCIO m dst => Sys2Proof.Machine.execAddCIO m dst s
  | .subCIO m dst => Sys2Proof.Machine.execSubCIO m dst s
  | .addR5 m dst => Sys2Proof.Machine.execAddR5 m dst s
  | .subR5 m dst => Sys2Proof.Machine.execSubR5 m dst s

end Sys2Proof.Machine
end

