-- ==== Sys2Proof/Machine/Coordinator.lean ====
section
/-!
DEFINITION. The pipeline coordinator: what the core does in each bus phase (48_coordinator.md R340 to R357), with
the early/late classification (R344) and the decoder's control result (00_scope.md R16).
-/
namespace Sys2Proof.Machine

open Sys2Proof

/-- IsLate: the instruction reads EXT or IO, so the coordinator defers it to S15 read: EXTKR, and the arithmetic
instructions whose entry of the operand table takes IO (48_coordinator.md R344). -/
def isLate (t : Vector OperandEntry 32) (i : Instr) : Bool :=
  match i with
  | .br _ => false
  | .tfa _ => false
  | .sfa _ => false
  | .zfa _ => false
  | .ifa _ => false
  | .xfab _ => false
  | .skr _ => false
  | .cfab _ => false
  | .r5fa _ => false
  | .tfb _ => false
  | .sfb _ => false
  | .zfb _ => false
  | .ifb _ => false
  | .frsv _ => false
  | .zkr _ => false
  | .cfba _ => false
  | .r5fb _ => false
  | .kscan _ => false
  | .ktest _ => false
  | .waitd _ => false
  | .clridle _ => false
  | .clrfa _ => false
  | .waitbusy _ => false
  | .inckr _ => false
  | .tkr _ => false
  | .far5 _ => false
  | .fbr5 _ => false
  | .ldr5 _ => false
  | .krr5 _ => false
  | .r5kr _ => false
  | .setidle _ => false
  | .clrfb _ => false
  | .tbusy _ => false
  | .extkr _ => true
  | .xkrsr _ => false
  | .wrsv14 _ => false
  | .wrsv15 _ => false
  | .addAK _ _ => t[(0 : Fin 32)].io
  | .subAK _ _ => t[(1 : Fin 32)].io
  | .add0B _ _ => t[(2 : Fin 32)].io
  | .sub0B _ _ => t[(3 : Fin 32)].io
  | .addCK _ _ => t[(4 : Fin 32)].io
  | .subCK _ _ => t[(5 : Fin 32)].io
  | .add0D _ _ => t[(6 : Fin 32)].io
  | .sub0D _ _ => t[(7 : Fin 32)].io
  | .shlA _ _ => t[(8 : Fin 32)].io
  | .shrA _ _ => t[(9 : Fin 32)].io
  | .shlB _ _ => t[(10 : Fin 32)].io
  | .shrB _ _ => t[(11 : Fin 32)].io
  | .shlC _ _ => t[(12 : Fin 32)].io
  | .shrC _ _ => t[(13 : Fin 32)].io
  | .shlD _ _ => t[(14 : Fin 32)].io
  | .shrD _ _ => t[(15 : Fin 32)].io
  | .addAB _ _ => t[(16 : Fin 32)].io
  | .subAB _ _ => t[(17 : Fin 32)].io
  | .addCB _ _ => t[(18 : Fin 32)].io
  | .subCB _ _ => t[(19 : Fin 32)].io
  | .addCD _ _ => t[(20 : Fin 32)].io
  | .subCD _ _ => t[(21 : Fin 32)].io
  | .addAD _ _ => t[(22 : Fin 32)].io
  | .subAD _ _ => t[(23 : Fin 32)].io
  | .addAIO _ _ => t[(24 : Fin 32)].io
  | .subAIO _ _ => t[(25 : Fin 32)].io
  | .add0K _ _ => t[(26 : Fin 32)].io
  | .sub0K _ _ => t[(27 : Fin 32)].io
  | .addCIO _ _ => t[(28 : Fin 32)].io
  | .subCIO _ _ => t[(29 : Fin 32)].io
  | .addR5 _ _ => t[(30 : Fin 32)].io
  | .subR5 _ _ => t[(31 : Fin 32)].io

/-- IsEXTKR (48_coordinator.md R340). -/
def isExtkr (w : OpWord) : Bool :=
  !w.getLsbD 12 && opClass w == 10 && opN w == 12

/-- The control result of the decoder in a state (00_scope.md R16): NeedsHold for the two waiting instructions
where they set HOLD (44_wait_ops.md R242, 43_keyboard.md R225). The coordinator does not use it
(48_coordinator.md R358). -/
def controlResult (i : Instr) (s : State) : CtrlResult :=
  match i with
  | .br _ => .completed
  | .tfa _ => .completed
  | .sfa _ => .completed
  | .zfa _ => .completed
  | .ifa _ => .completed
  | .xfab _ => .completed
  | .skr _ => .completed
  | .cfab _ => .completed
  | .r5fa _ => .completed
  | .tfb _ => .completed
  | .sfb _ => .completed
  | .zfb _ => .completed
  | .ifb _ => .completed
  | .frsv _ => .completed
  | .zkr _ => .completed
  | .cfba _ => .completed
  | .r5fb _ => .completed
  | .kscan mask => (fullScan mask (rearm s)).2
  | .ktest _ => .completed
  | .waitd b => (waitDigit b (rearm s)).2
  | .clridle _ => .completed
  | .clrfa _ => .completed
  | .waitbusy _ => .completed
  | .inckr _ => .completed
  | .tkr _ => .completed
  | .far5 _ => .completed
  | .fbr5 _ => .completed
  | .ldr5 _ => .completed
  | .krr5 _ => .completed
  | .r5kr _ => .completed
  | .setidle _ => .completed
  | .clrfb _ => .completed
  | .tbusy _ => .completed
  | .extkr _ => .completed
  | .xkrsr _ => .completed
  | .wrsv14 _ => .completed
  | .wrsv15 _ => .completed
  | .addAK _ _ => .completed
  | .subAK _ _ => .completed
  | .add0B _ _ => .completed
  | .sub0B _ _ => .completed
  | .addCK _ _ => .completed
  | .subCK _ _ => .completed
  | .add0D _ _ => .completed
  | .sub0D _ _ => .completed
  | .shlA _ _ => .completed
  | .shrA _ _ => .completed
  | .shlB _ _ => .completed
  | .shrB _ _ => .completed
  | .shlC _ _ => .completed
  | .shrC _ _ => .completed
  | .shlD _ _ => .completed
  | .shrD _ _ => .completed
  | .addAB _ _ => .completed
  | .subAB _ _ => .completed
  | .addCB _ _ => .completed
  | .subCB _ _ => .completed
  | .addCD _ _ => .completed
  | .subCD _ _ => .completed
  | .addAD _ _ => .completed
  | .subAD _ _ => .completed
  | .addAIO _ _ => .completed
  | .subAIO _ _ => .completed
  | .add0K _ _ => .completed
  | .sub0K _ _ => .completed
  | .addCIO _ _ => .completed
  | .subCIO _ _ => .completed
  | .addR5 _ _ => .completed
  | .subR5 _ _ => .completed

/-- `Decode(op)`: the decoder run on an instruction word (41_branch.md R180). -/
def runDecoder (w : OpWord) (s : State) : Result :=
  exec (decode w) s

/-- S0 write before the decoder: the snapshots (48_coordinator.md R345), HOLD and SIN cleared (R346), COND latched
for delayed signalling (R347), the pending word classified (R348). -/
def s0WriteEnter (s : State) : State :=
  { s with
    digit := s.bus.dstate, extSnap := s.bus.ext, keySnap := s.bus.keyLine
    hold := false, sin := zeroDigits
    condL := if s.cond then true else s.condL
    late := isLate s.cfg.operandTable (decode s.ilOp) }

/-- IO publication: if IOVALID, bus.io <- IOOUT and the marker is cleared (48_coordinator.md R349). -/
def publishIo (s : State) : State :=
  if s.ioValid then { s with bus := { s.bus with io := s.ioOut }, ioValid := false } else s

/-- KR publication, unless the pending word is EXTKR (48_coordinator.md R350). -/
def publishKr (s : State) : State :=
  if isExtkr s.ilOp then s else { s with bus := { s.bus with ext := rotr16 s.kr } }

/-- S0 write up to the publications: the decoder runs now unless the pending word is late (48_coordinator.md R345 to
R348). -/
def s0WriteExecute (s : State) : Result :=
  let s1 := s0WriteEnter s
  if s1.late then .next s1 else runDecoder s1.ilOp s1

/-- S0 write (48_coordinator.md R345 to R350). -/
def s0Write (s : State) : Result :=
  onNext (s0WriteExecute s) fun s2 => publishKr (publishIo s2)

/-- S1 write: a latched COND is ORed onto EXT bit 1 and the latch cleared (48_coordinator.md R351). -/
def s1Write (s : State) : State :=
  if s.condL then { s with bus := { s.bus with ext := s.bus.ext ||| 0x0002#16 }, condL := false } else s

/-- S2 write: HOLD is ORed onto EXT bit 2 (48_coordinator.md R352). -/
def s2Write (s : State) : State :=
  if s.hold then { s with bus := { s.bus with ext := s.bus.ext ||| 0x0004#16 } } else s

/-- S2 read: the PREG-persistence bit of KR is cleared unless HOLD is observed on the bus (48_coordinator.md R353). -/
def s2Read (s : State) : State :=
  if s.bus.ext.getLsbD 2 then s else { s with kr := clearBit s.kr 1 }

/-- Blank the display outputs (48_coordinator.md R354). -/
def blankOutputs (s : State) : State :=
  { s with bus := { s.bus with display := blankDisplay } }

/-- Fetch, and the stop test: the latch is loaded from the bus, and the core returns non-zero when the address is
STOP (48_coordinator.md R356, R357). -/
def fetchLatch (s : State) : State :=
  { s with
    ilOp := s.bus.irg, ilAddr := s.bus.fetchAddr
    stopReq := s.stopReq || decide (s.bus.fetchAddr = .stop) }

/-- S15 read: late execution with SIN sampled from bus.io, then fetch (48_coordinator.md R355 to R357). -/
def s15Read (s : State) : Result :=
  onNext
    (if s.late then onNext (runDecoder s.ilOp { s with sin := s.bus.io }) fun t => { t with late := false }
     else .next s)
    fetchLatch

/-- Boot mode: the load-address request at S0 write, the blanking at S14 write, and at S15 read the count and, at
its end, the first fetch (48_coordinator.md R341, R342). -/
def bootPhase (s : State) : State :=
  match s.bus.write, s.bus.sstate.toNat with
  | true, 0 => { s with bus := { s.bus with ext := 0x0001 } }
  | true, 14 => blankOutputs s
  | false, 15 =>
    let s1 := { s with resetCnt := s.resetCnt - 1 }
    if s1.resetCnt = 0 then fetchLatch s1 else s1
  | _, _ => s

/-- Normal mode: the action of each phase; in a phase not named the core does nothing (48_coordinator.md R340). -/
def normalPhase (s : State) : Result :=
  match s.bus.write, s.bus.sstate.toNat with
  | true, 0 => s0Write s
  | true, 1 => .next (s1Write s)
  | true, 2 => .next (s2Write s)
  | false, 2 => .next (s2Read s)
  | true, 14 => .next (blankOutputs s)
  | false, 15 => s15Read s
  | _, _ => .next s

/-- Every write phase publishes IDLE first (48_coordinator.md R343). -/
def publishIdle (s : State) : State :=
  if s.bus.write then { s with bus := { s.bus with idle := s.idle } } else s

/-- The core's process function (48_coordinator.md R340). A non-zero return is the sequencer's stopReq. -/
def coreProcess (s : State) : Result :=
  let s1 := publishIdle s
  if 0 < s1.resetCnt then .next (bootPhase s1) else normalPhase s1

end Sys2Proof.Machine
end

