-- ==== Sys2Proof/Machine/Sequencer.lean ====
section
/-!
DEFINITION. The bus timing sequencer (20_memory.md R72, R77, R80) and the other chips, as the schedule State.env
writes them (R78) and in the attachment order of the configuration (R83): one phase of one serial-state, and where the
run goes on. With them the premise of single-writer ownership (R88, 70_reset_and_hazards.md R418).
-/
namespace Sys2Proof.Machine

open Sys2Proof

/-- One write of another chip on the bus (20_memory.md R71). -/
def BusWrite.apply (w : BusWrite) (b : Bus) : Bus :=
  match w with
  | .ext v => { b with ext := v }
  | .orExt v => { b with ext := b.ext ||| v }
  | .irg v => { b with irg := v }
  | .io v => { b with io := v }
  | .display v => { b with display := v }
  | .keyLine v => { b with keyLine := v }
  | .fetchAddr v => { b with fetchAddr := v }

/-- The writes of a list of chips, in attachment order (20_memory.md R83). -/
def applyWrites (ws : List BusWrite) (b : Bus) : Bus :=
  ws.foldl (fun b w => w.apply b) b

/-- What the environment does in the phase to come. -/
def State.frame (s : State) : Frame := s.env.headD Frame.quiet

/-- The writes, in the phase to come, of the chips attached before the core, in attachment order. -/
def State.writesBefore (s : State) : List BusWrite :=
  s.cfg.attachedBefore.flatMap fun n => (s.frame.action n).writes

/-- The writes, in the phase to come, of the chips attached after the core, in attachment order. -/
def State.writesAfter (s : State) : List BusWrite :=
  s.cfg.attachedAfter.flatMap fun n => (s.frame.action n).writes

/-- Some other chip on the bus returns non-zero in the phase to come (20_memory.md R79, R80). -/
def State.othersStop (s : State) : Bool :=
  s.cfg.attached.any fun n => (s.frame.action n).nonzero

/-- Bus writes are made in write phases only (20_memory.md R76). -/
def chipWrites (ws : List BusWrite) (s : State) : State :=
  if s.bus.write then { s with bus := applyWrites ws s.bus } else s

/-- The phase up to the core's invocation: a write phase opens its serial-state with stop <- 0 (20_memory.md R77),
the environment may set BUSY (10_state.md R35), the chips attached before the core run, and the frame is used up. -/
def beforeCore (s : State) : State :=
  chipWrites s.writesBefore
    { s with
      busy := s.busy || s.frame.setBusy
      stopReq := (if s.bus.write then false else s.stopReq) || s.othersStop
      env := s.env.tail }

/-- The digit-cycle after a digit-cycle: 15 down to 0, then 15 again (20_memory.md R77). -/
def nextDstate (d : BitVec 4) : BitVec 4 := if d = 0 then 15 else d - 1

/-- The sequencer's move to the next phase: write to read; read to the next serial-state's write; after
serial-state 15 to the next digit-cycle, with EXT, IRG and IO zeroed (20_memory.md R72, R77). A serial-state in
which some chip returned non-zero ends the run after its read phase (R80). -/
def advance (s : State) : State :=
  if s.bus.write then { s with bus := { s.bus with write := false } }
  else if s.stopReq then { s with ended := true }
  else if s.bus.sstate = 15 then
    { s with
      bus := { s.bus with
        ext := 0, irg := 0, io := zeroDigits
        dstate := nextDstate s.bus.dstate, sstate := 0, write := true } }
  else { s with bus := { s.bus with sstate := s.bus.sstate + 1, write := true } }

/-- One phase: the chips before the core, the core, the chips after it, then the sequencer (20_memory.md R77). An
ended run has no phase. -/
def runPhase (s : State) : Result :=
  if s.ended then .fault .runEnded
  else onNext (coreProcess (beforeCore s)) fun t => advance (chipWrites s.writesAfter t)

/-- The bus fields that chips write (20_memory.md R71); dstate, sstate and write are the sequencer's, and idle has one
writer, the core. -/
inductive BusField where
  | ext | irg | io | display | keyLine | fetchAddr
deriving DecidableEq, Repr

/-- All of them. -/
abbrev BusField.all : List BusField := [.ext, .irg, .io, .display, .keyLine, .fetchAddr]

/-- The field a write is made to. -/
def BusWrite.field (w : BusWrite) : BusField :=
  match w with
  | .ext _ => .ext
  | .orExt _ => .ext
  | .irg _ => .irg
  | .io _ => .io
  | .display _ => .display
  | .keyLine _ => .keyLine
  | .fetchAddr _ => .fetchAddr

/-- Chip n writes the field in this phase. -/
def Frame.writes (f : Frame) (n : Nat) (b : BusField) : Bool :=
  (f.action n).writes.any fun w => decide (w.field = b)

/-- The core writes the field in the write phase to come (20_memory.md R71): EXT at S0 write, for the boot pulse
(48_coordinator.md R341) or for KR (R350), at S1 write for COND (R351) and at S2 write for HOLD (R352); IO at S0 write
when IOVALID is 1 after the decoder's early run (R349); the display at S14 write (R354). -/
def coreWrites (s : State) (b : BusField) : Bool :=
  match b with
  | .ext =>
    (decide (s.bus.sstate = 0) && (decide (0 < s.resetCnt) || !isExtkr s.ilOp)) ||
      (decide (s.resetCnt = 0) && decide (s.bus.sstate = 1) && s.condL) ||
      (decide (s.resetCnt = 0) && decide (s.bus.sstate = 2) && s.hold)
  | .irg => false
  | .io =>
    decide (s.resetCnt = 0) && decide (s.bus.sstate = 0) &&
      (match s0WriteExecute s with
      | .next u => u.ioValid
      | .fault _ => false
      | .refused _ => false)
  | .display => decide (s.bus.sstate = 14)
  | .keyLine => false
  | .fetchAddr => false

/-- How many chips, the core among them, write the field in the write phase to come. -/
def State.writerCount (s : State) (b : BusField) : Nat :=
  (s.cfg.attached.filter fun n => s.frame.writes n b).length + (coreWrites s b).toNat

/-- Same-phase field ownership, the premise of 20_memory.md R88 and 70_reset_and_hazards.md R418 on the frame of the
phase to come: no bus field is written by two chips. The machine does not need it: in a frame that breaks it the
attachment order of the configuration decides (log entry 8). -/
abbrev State.SingleWriter (s : State) : Prop :=
  s.bus.write = true → ∀ b ∈ BusField.all, s.writerCount b ≤ 1

/-- The state with a word pending, placed at the phase in which the core executes it: S0 write for an early word;
S15 read with LATE set for a late one; normal mode, run not ended (log entry 18). -/
def placeWord (w : OpWord) (s : State) : State :=
  if isLate s.cfg.operandTable (decode w) then
    { s with ilOp := w, late := true, resetCnt := 0, ended := false
             bus := { s.bus with sstate := 15, write := false } }
  else
    { s with ilOp := w, resetCnt := 0, ended := false
             bus := { s.bus with sstate := 0, write := true } }

end Sys2Proof.Machine
end

