-- ==== Sys2Proof/Machine/Step.lean ====
section
/-!
DEFINITION. The step of the machine, one phase of one serial-state (20_memory.md R75, R77), and the state whose
next step runs a given instruction word.
-/
namespace Sys2Proof.Machine

open Sys2Proof

/-- One step: one phase (20_memory.md R77). -/
def step (s : State) : Host.Outcome State Fault Refusal :=
  runPhase s

/-- The state whose next step runs the word w: the word in the instruction latch, where the decoder takes it
(48_coordinator.md R348, R355; log entry 18). -/
def State.withFetchWord (s : State) (nbits w : Nat) : State :=
  placeWord (BitVec.ofNat 13 (w % 2 ^ nbits)) s

end Sys2Proof.Machine
end

