-- ==== Sys2Proof/Safety.lean ====
section
/-!
DEFINITION. The terms the statements use: the classes of instructions, the state after the decoder's entry, one
ALU pass in exact arithmetic over its window, the values of windows as numbers, the pass in place, and the
invariant a run keeps. Nothing here is part of the machine.
-/
namespace Sys2Proof.Machine

open Sys2Proof

/-- The five classes of words (30_encoding.md R101). -/
inductive OpClass where
  | branch | flag | keyboard | wait | arith
deriving DecidableEq, Repr

/-- The class the tests of 30_encoding.md R101, in their order, give a word. -/
def wordClass (w : OpWord) : OpClass :=
  if w.getLsbD 12 then .branch
  else if w.extractLsb' 8 4 = 0#4 then .flag
  else if w.extractLsb' 8 4 = 8#4 then .keyboard
  else if w.extractLsb' 8 4 = 10#4 then .wait
  else .arith

/-- The class of an instruction (the formats of spec/opcode_table.json). -/
def instrClass (i : Instr) : OpClass :=
  match i with
  | .br _ => .branch
  | .tfa _ => .flag
  | .sfa _ => .flag
  | .zfa _ => .flag
  | .ifa _ => .flag
  | .xfab _ => .flag
  | .skr _ => .flag
  | .cfab _ => .flag
  | .r5fa _ => .flag
  | .tfb _ => .flag
  | .sfb _ => .flag
  | .zfb _ => .flag
  | .ifb _ => .flag
  | .frsv _ => .flag
  | .zkr _ => .flag
  | .cfba _ => .flag
  | .r5fb _ => .flag
  | .kscan _ => .keyboard
  | .ktest _ => .keyboard
  | .waitd _ => .wait
  | .clridle _ => .wait
  | .clrfa _ => .wait
  | .waitbusy _ => .wait
  | .inckr _ => .wait
  | .tkr _ => .wait
  | .far5 _ => .wait
  | .fbr5 _ => .wait
  | .ldr5 _ => .wait
  | .krr5 _ => .wait
  | .r5kr _ => .wait
  | .setidle _ => .wait
  | .clrfb _ => .wait
  | .tbusy _ => .wait
  | .extkr _ => .wait
  | .xkrsr _ => .wait
  | .wrsv14 _ => .wait
  | .wrsv15 _ => .wait
  | .addAK _ _ => .arith
  | .subAK _ _ => .arith
  | .add0B _ _ => .arith
  | .sub0B _ _ => .arith
  | .addCK _ _ => .arith
  | .subCK _ _ => .arith
  | .add0D _ _ => .arith
  | .sub0D _ _ => .arith
  | .shlA _ _ => .arith
  | .shrA _ _ => .arith
  | .shlB _ _ => .arith
  | .shrB _ _ => .arith
  | .shlC _ _ => .arith
  | .shrC _ _ => .arith
  | .shlD _ _ => .arith
  | .shrD _ _ => .arith
  | .addAB _ _ => .arith
  | .subAB _ _ => .arith
  | .addCB _ _ => .arith
  | .subCB _ _ => .arith
  | .addCD _ _ => .arith
  | .subCD _ _ => .arith
  | .addAD _ _ => .arith
  | .subAD _ _ => .arith
  | .addAIO _ _ => .arith
  | .subAIO _ _ => .arith
  | .add0K _ _ => .arith
  | .sub0K _ _ => .arith
  | .addCIO _ _ => .arith
  | .subCIO _ _ => .arith
  | .addR5 _ _ => .arith
  | .subR5 _ _ => .arith

/-- The number of 13-bit words whose decoded instruction is in a class (30_encoding.md R102). -/
def classCount (c : OpClass) : Nat :=
  ((List.range 8192).filter fun n => decide (instrClass (decode (BitVec.ofNat 13 n)) = c)).length

/-- The state an instruction that is not a branch marker acts on: JUMP cleared, and COND set if JUMP was set
(41_branch.md R182). -/
def entered (s : State) : State :=
  { s with jump := false, cond := s.cond || s.jump }

/-- The arithmetic instruction of operand entry j: in the order of 45_arithmetic.md R284, add/sub AK 0B CK 0D,
shl/shr A B C D, add/sub AB CB CD AD AIO 0K CIO R5. -/
def arInstr (j : Fin 32) (mi : BitVec 4) (dst : Dest) : Instr :=
  arithSlots[j] mi dst

/-- The kind of operand entry j, in the machine's operand table. -/
def entryKind (j : Fin 32) (s : State) : Kind := s.cfg.operandTable[j].kind

/-- The temporary T of R5-to-adder (45_arithmetic.md R292). -/
def tempT (m : MaskDesc) (s : State) : Digits := Vector.ofFn fun i => if i = m.start then s.r5 else 0

/-- The first operand the dispatch passes for entry j of the machine's operand table: absent (zeros) for the special
source R5 (45_arithmetic.md R285). -/
def entryX (j : Fin 32) (s : State) : Digits :=
  match s.cfg.operandTable[j].x with
  | .none => zeroDigits
  | .reg r => s.reg r
  | .r5 => zeroDigits

/-- The second operand the dispatch passes for entry j of the machine's operand table: the temporary T for the special
source R5 (45_arithmetic.md R285, R292; R5 as Y: log entry 25). -/
def entryY (j : Fin 32) (m : MaskDesc) (s : State) : Digits :=
  match s.cfg.operandTable[j].x, s.cfg.operandTable[j].y with
  | .r5, _ => tempT m s
  | _, .none => zeroDigits
  | _, .reg r => s.reg r
  | _, .r5 => tempT m s

/-- The second operand of entry j at digit i as the adder sees it: Y ORed with SIN while IOVALID is 0 and with
the constant at cpos (40_alu_exchange.md R143 to R145). -/
def entryEffY (j : Fin 32) (m : MaskDesc) (s : State) (i : Nat) : Digit :=
  digitAt (entryY j m s) i ||| (if s.ioValid = true then 0 else digitAt s.sin i) |||
    (if i = m.cpos.val then m.cval else 0)

/-- The carry (for SUB the borrow) out of digit i, in exact arithmetic, t being y plus the carry in
(40_alu_exchange.md R147 to R149): at digit 0 an ADD carries from 16 on and a SUB borrows when negative; at the
decimal digits an ADD carries from 10 on and a SUB when negative or, for digits above 9, when 10 or more. -/
def exactCarry (k : Kind) (i x t : Nat) : Bool :=
  match k with
  | .sub => decide (x < t) || (decide (i ≠ 0) && decide (t + 10 ≤ x))
  | .add => decide ((if i = 0 then 16 else 10) ≤ x + t)
  | .shl => decide ((if i = 0 then 16 else 10) ≤ x + t)
  | .shr => decide ((if i = 0 then 16 else 10) ≤ x + t)

/-- The corrected value of digit i, in exact arithmetic modulo 16: plus or minus ten at a decimal digit in carry
(40_alu_exchange.md R148, R149). -/
def exactValue (k : Kind) (i x t : Nat) : Nat :=
  match k with
  | .sub => (16 + x - t + if i ≠ 0 ∧ exactCarry .sub i x t = true then 10 else 0) % 16
  | .add => (x + t + if i ≠ 0 ∧ exactCarry .add i x t = true then 6 else 0) % 16
  | .shl => (x + t + if i ≠ 0 ∧ exactCarry .shl i x t = true then 6 else 0) % 16
  | .shr => (x + t + if i ≠ 0 ∧ exactCarry .shr i x t = true then 6 else 0) % 16

/-- The carry into the n-th digit of a window that starts at digit start (40_alu_exchange.md R142, R158). -/
def windowCarry (k : Kind) (start : Nat) (x y : Nat → Nat) (n : Nat) : Bool :=
  match n with
  | 0 => false
  | n + 1 =>
    exactCarry k (start + n) (x (start + n))
      (y (start + n) + (windowCarry k start x y n).toNat)

/-- The corrected value at digit i of a window that starts at digit start. -/
def windowDigit (k : Kind) (start : Nat) (x y : Nat → Nat) (i : Nat) : Nat :=
  exactValue k i (x i) (y i + (windowCarry k start x y (i - start)).toNat)

/-- Digit i of the destination after a pass over a window, old being its digit before (40_alu_exchange.md R150,
R152, R154). -/
def windowResult (k : Kind) (m : MaskDesc) (x y : Nat → Nat) (old : Nat) (i : Nat) : Nat :=
  if m.InWindow i then
    match k with
    | .add => windowDigit k m.start x y i
    | .sub => windowDigit k m.start x y i
    | .shl => if i = m.start.val then 0 else windowDigit k m.start x y (i - 1)
    | .shr => if i = m.last.val then 0 else y (i + 1)
  else old

/-- The carry out of the last digit of the window. -/
def windowCarryOut (k : Kind) (m : MaskDesc) (x y : Nat → Nat) : Bool :=
  windowCarry k m.start x y (m.last.val + 1 - m.start.val)

/-- COND after a pass: cleared when an ADD or SUB carries out of the window (40_alu_exchange.md R153). -/
def condAfter (k : Kind) (m : MaskDesc) (x y : Nat → Nat) (cond : Bool) : Bool :=
  match k with
  | .add => cond && !windowCarryOut k m x y
  | .sub => cond && !windowCarryOut k m x y
  | .shl => cond
  | .shr => cond

/-- The digits of the first operand of entry j as numbers. -/
def natX (j : Fin 32) (s : State) (i : Nat) : Nat := (digitAt (entryX j s) i).toNat

/-- The digits of the second operand of entry j, as the adder sees them, as numbers. -/
def natY (j : Fin 32) (m : MaskDesc) (s : State) (i : Nat) : Nat := (entryEffY j m s i).toNat

/-- The decimal value of the n digits of R from digit start on (40_alu_exchange.md R162). -/
def decimalValue (R : Digits) (start n : Nat) : Nat :=
  match n with
  | 0 => 0
  | n + 1 => decimalValue R start n + (digitAt R (start + n)).toNat * 10 ^ n

/-- The value of digits 0 to last of R with a binary digit 0 (40_alu_exchange.md R164). -/
def mixedValue (R : Digits) (last : Nat) : Nat :=
  (digitAt R 0).toNat + 16 * decimalValue R 1 last

/-- The serial input contributes nothing: IOVALID is 1 or SIN is 0^16 (40_alu_exchange.md R144). -/
abbrev State.SerialSilent (s : State) : Prop := s.ioValid = true ∨ s.sin = zeroDigits

/-- Every decimal digit (index 1 and above) of R in the window is 0..9 (40_alu_exchange.md R163). -/
abbrev DecimalIn (m : MaskDesc) (R : Digits) : Prop :=
  ∀ i : Fin 16, 1 ≤ i.val → m.InWindow i.val → (digitAt R i.val).toNat ≤ 9

/-- A digit register read at the moment of an iteration, an absent operand being 0. -/
def liveDigit (r : Option Reg) (s : State) (i : Nat) : Digit :=
  match r with
  | none => 0
  | some q => digitAt (s.reg q) i

/-- One iteration of 40_alu_exchange.md R141 in place: operands read from the registers as they are at that
moment, the destination written at once. The pair holds the state and the temporaries carry and shl. -/
def inPlaceDigit (k : Kind) (X Y : Option Reg) (t : Target) (m : MaskDesc) (i : Nat)
    (p : State × Bool × Digit) : State × Bool × Digit :=
  let s := p.1
  let carry := if i = m.start.val then false else p.2.1
  let shl := if i = m.start.val then 0 else p.2.2
  let y := liveDigit Y s i ||| s.serialIn i ||| constAt m i
  let w := workingSum k (liveDigit X s i) (y.setWidth 8 + if carry then 1 else 0)
  let v := digitValue k i w
  if m.InWindow i then
    let s1 := if i = m.start.val then { s with r5 := v } else s
    let s2 := s1.setTarget t (writeDigit k m i v shl y (s1.targetValue t))
    let s3 :=
      if i = m.last.val ∧ isAddSub k = true ∧ digitCarry i w = true then { s2 with cond := false } else s2
    (s3, digitCarry i w, if k = .shl then v else shl)
  else (s, digitCarry i w, shl)

/-- The first n iterations in place. -/
def inPlaceUpto (k : Kind) (X Y : Option Reg) (t : Target) (m : MaskDesc) (s : State) (n : Nat) :
    State × Bool × Digit :=
  match n with
  | 0 => (s, false, 0)
  | n + 1 => inPlaceDigit k X Y t m n (inPlaceUpto k X Y t m s n)

/-- The word the rule of an instruction writes out under "Encoding" is its word, and it returns Completed
(00_scope.md R16). -/
abbrev CompletedAs (i : Instr) (word : Nat) (s : State) : Prop :=
  encode i = BitVec.ofNat 13 word ∧ controlResult i s = .completed

/-- A key of key line n is pressed and not masked out (43_keyboard.md R222). -/
def pressed (s : State) (mask : KeyRow) (n : Fin 7) : Bool :=
  (s.keySnap.getLsbD n.val != s.cfg.keyInvert) && mask.getLsbD n.val

/-- Key line n is the only one with a pressed key under the mask. -/
abbrev OnlyKey (s : State) (mask : KeyRow) (n : Fin 7) : Prop :=
  ∀ k : Fin 7, pressed s mask k = true ↔ k = n

/-- The 13-bit EXT payload that KR publishes: KR bit 0 above KR bits 15 to 4 (10_state.md R25). -/
def payload (kr : Word16) : Nat :=
  (kr.getLsbD 0).toNat * 4096 + (kr.extractLsb' 4 12).toNat

/-- The phase to come is S0 write, the first of a digit-cycle (00_scope.md R18). -/
abbrev State.AtS0Write (s : State) : Prop := s.bus.sstate = 0 ∧ s.bus.write = true

/-- The phase to come is S15 read, the last of a digit-cycle (00_scope.md R18). -/
abbrev State.AtS15Read (s : State) : Prop := s.bus.sstate = 15 ∧ s.bus.write = false

/-- In the next n phases no other chip on the bus writes EXT (48_coordinator.md R360). -/
abbrev State.ExtLeftAlone (s : State) (n : Nat) : Prop :=
  ∀ f ∈ s.env.take n, ∀ c ∈ s.cfg.attached, f.writes c .ext = false

/-- In the next n phases no other chip on the bus returns non-zero (20_memory.md R79). -/
abbrev State.NoOtherStops (s : State) (n : Nat) : Prop :=
  ∀ f ∈ s.env.take n, ∀ c ∈ s.cfg.attached, (f.action c).nonzero = false

/-- The two instructions that can wait (44_wait_ops.md R262). -/
def waits (i : Instr) : Bool :=
  match i with
  | .br _ => false
  | .tfa _ => false
  | .sfa _ => false
  | .zfa _ => false
  | .ifa _ => false
  | .xfab _ => false
  | .skr _ => false
  | .cfab _ => false
  | .r5fa _ => false
  | .tfb _ => false
  | .sfb _ => false
  | .zfb _ => false
  | .ifb _ => false
  | .frsv _ => false
  | .zkr _ => false
  | .cfba _ => false
  | .r5fb _ => false
  | .kscan _ => true
  | .ktest _ => false
  | .waitd _ => true
  | .clridle _ => false
  | .clrfa _ => false
  | .waitbusy _ => false
  | .inckr _ => false
  | .tkr _ => false
  | .far5 _ => false
  | .fbr5 _ => false
  | .ldr5 _ => false
  | .krr5 _ => false
  | .r5kr _ => false
  | .setidle _ => false
  | .clrfb _ => false
  | .tbusy _ => false
  | .extkr _ => false
  | .xkrsr _ => false
  | .wrsv14 _ => false
  | .wrsv15 _ => false
  | .addAK _ _ => false
  | .subAK _ _ => false
  | .add0B _ _ => false
  | .sub0B _ _ => false
  | .addCK _ _ => false
  | .subCK _ _ => false
  | .add0D _ _ => false
  | .sub0D _ _ => false
  | .shlA _ _ => false
  | .shrA _ _ => false
  | .shlB _ _ => false
  | .shrB _ _ => false
  | .shlC _ _ => false
  | .shrC _ _ => false
  | .shlD _ _ => false
  | .shrD _ _ => false
  | .addAB _ _ => false
  | .subAB _ _ => false
  | .addCB _ _ => false
  | .subCB _ _ => false
  | .addCD _ _ => false
  | .subCD _ _ => false
  | .addAD _ _ => false
  | .subAD _ _ => false
  | .addAIO _ _ => false
  | .subAIO _ _ => false
  | .add0K _ _ => false
  | .sub0K _ _ => false
  | .addCIO _ _ => false
  | .subCIO _ _ => false
  | .addR5 _ _ => false
  | .subR5 _ _ => false

/-- What every reachable state of a run satisfies; the claims are about the run going on (ended = false). -/
structure State.Inv (s : State) : Prop where
  /-- The parameters are legal (00_scope.md R9, 45_arithmetic.md R283). -/
  legal : s.cfg.Legal
  /-- EXT, IRG and IO are zero at the start of a digit-cycle (20_memory.md R72). -/
  zeroedAtStart : s.ended = false → s.AtS0Write →
    s.bus.ext = 0 ∧ s.bus.irg = 0 ∧ s.bus.io = zeroDigits
  /-- CONDL is set between S0 write and S1 write only (48_coordinator.md R347, R351). -/
  condLatch : s.ended = false → s.condL = true →
    s.resetCnt = 0 ∧ ((s.bus.sstate = 0 ∧ s.bus.write = false) ∨ (s.bus.sstate = 1 ∧ s.bus.write = true))
  /-- LATE marks exactly a late word between S0 write and S15 read of normal mode (10_state.md R40). -/
  lateMark : s.ended = false →
    (s.late = true ↔ s.resetCnt = 0 ∧ ¬ s.AtS0Write ∧ isLate s.cfg.operandTable (decode s.ilOp) = true)
  /-- After S0 write HOLD is set only by the waiting instruction of this digit-cycle (48_coordinator.md R352). -/
  holdBy : s.ended = false → s.hold = true →
    s.resetCnt = 0 ∧ (s.AtS0Write ∨ waits (decode s.ilOp) = true)
  /-- IOVALID is set only at S0 write, so a late instruction finds it 0 (45_arithmetic.md R289). -/
  ioValidAt : s.ended = false → s.ioValid = true → s.resetCnt = 0 ∧ s.AtS0Write
  /-- SIN is zero but for the instant after a late execution (48_coordinator.md R346, R355). -/
  sinZero : s.ended = false → (0 < s.resetCnt ∨ ¬ s.AtS0Write) → s.sin = zeroDigits
  /-- In every read phase after S0 the bus shows IDLE (48_coordinator.md R343). -/
  idleShown : s.ended = false → s.bus.write = false → s.bus.sstate ≠ 0 → s.bus.idle = s.idle
  /-- DIGIT is the digit-cycle's number from S0 write on (10_state.md R41). -/
  digitOf : s.ended = false → s.resetCnt = 0 → ¬ s.AtS0Write → s.digit = s.bus.dstate
  /-- A run in normal mode has no STOP latched (48_coordinator.md R357). -/
  notStopped : s.ended = false → s.resetCnt = 0 → s.ilAddr ≠ .stop
  /-- No chip has returned non-zero when a serial-state begins (20_memory.md R77). -/
  noStopPending : s.ended = false → s.bus.write = true → s.stopReq = false
  /-- A run ends after a read phase in which a chip returned non-zero (20_memory.md R80). -/
  endedBy : s.ended = true → s.bus.write = false ∧ s.stopReq = true

end Sys2Proof.Machine
end

