-- ==== Sys2Proof/Certificates/Slice0/Obligations.lean ====
section
/-!
DEFINITION. The statements for the provers, each def Obligations.<Name> : Prop. Their terms are in Safety.lean.
-/

open Sys2Proof Sys2Proof.Machine

/-! Encoding -/

/-- Decoding the word of a well-formed instruction gives it back, for every operand of every format
(30_encoding.md R103 to R107). -/
def Obligations.DecodeOfEncode : Prop :=
  ∀ i : Instr, i.WellFormed → decode (encode i) = i

/-- Every one of the 8192 words is the word of the well-formed instruction it decodes to. That encoding gives back the
ignored bits too is the model's choice: its instructions keep them as operands (log entry 21). -/
def Obligations.EncodeOfDecode : Prop :=
  ∀ w : OpWord, encode (decode w) = w ∧ (decode w).WellFormed

/-- Words the spec writes out decode to the instructions they stand for (95_test_vectors.md, Part 4). -/
def Obligations.SpecWordsDecode : Prop :=
  decode 0x1ABC#13 = .br 0xABC ∧ decode 0x0031#13 = .sfa 3 ∧ decode 0x08FF#13 = .kscan 0x7F ∧
    decode 0x0881#13 = .ktest 0x41 ∧ decode 0x0A16#13 = .fbr5 0 ∧ decode 0x0A97#13 = .ldr5 9 ∧
    decode 0x0988#13 = .subAB 9 .a ∧ decode 0x01D7#13 = .add0K 1 .xae

/-- The class of a word is the one the tests of R101, in their order, decide. -/
def Obligations.ClassSelection : Prop :=
  ∀ w : OpWord, instrClass (decode w) = wordClass w

/-- How many of the 8192 words the decoder reads as an instruction of each class: 4096 branch markers, 256 flag, 256
keyboard, 256 wait and 3328 arithmetic (R102). -/
def Obligations.ClassCounts : Prop :=
  classCount .branch = 4096 ∧ classCount .flag = 256 ∧ classCount .keyboard = 256 ∧ classCount .wait = 256 ∧
    classCount .arith = 3328

/-- Words that differ only in ignored bits have the same effect: bits 11..0 of a branch marker; b of R5FA, R5FB
and FRSV; b of every wait operation but WAITD, TKR and LDR5, of slots 6 and 8 all but its bit 0 (R115). -/
def Obligations.IgnoredBitsHaveNoEffect : Prop :=
  ∀ (w v : OpWord) (s : State),
    (w.getLsbD 12 = true → v.getLsbD 12 = true → runDecoder w s = runDecoder v s) ∧
    (wordClass w = .flag → wordClass v = .flag → opN w = opN v → opN w ∈ [7#4, 12#4, 15#4] →
      runDecoder w s = runDecoder v s) ∧
    (wordClass w = .wait → wordClass v = .wait → opN w = opN v → opN w ∉ [0#4, 5#4, 6#4, 7#4, 8#4] →
      runDecoder w s = runDecoder v s) ∧
    (wordClass w = .wait → wordClass v = .wait → opN w = opN v → opN w ∈ [6#4, 8#4] →
      w.getLsbD 4 = v.getLsbD 4 → runDecoder w s = runDecoder v s)

/-- The early/late classification of a word, for every operand table: late are EXTKR and the arithmetic words whose
operand entry takes IO, and every other word is early; with the reference table those entries are 24, 25, 28 and 29
(R344). The coordinator's test IsEXTKR holds exactly for the words of EXTKR (R340, R350). -/
def Obligations.LateWords : Prop :=
  (∀ (t : Vector OperandEntry 32) (w : OpWord),
    isLate t (decode w) =
      (decide (wordClass w = .wait ∧ w.extractLsb' 0 4 = 12#4) ||
        (decide (wordClass w = .arith) && t[(w.extractLsb' 3 5).toFin].io))) ∧
  (∀ j : Fin 32, operandTableRef[j].io = true ↔ j ∈ [(24 : Fin 32), 25, 28, 29]) ∧
  ∀ w : OpWord, isExtkr w = true ↔ ∃ b, decode w = .extkr b

/-- The word of an arithmetic instruction: mask index in bits 11..8, operand index in bits 7..3, destination code in
bits 2..0, the codes in the order of DEST_TABLE (45_arithmetic.md R281, 30_encoding.md R107). And with the reference
operand table, the pass that each of the 32 instructions runs: its kind, its first and its second operand
(45_arithmetic.md R300 to R331; what a pass computes is in the statements on arithmetic below). -/
def Obligations.ArithmeticWords : Prop :=
  (∀ (j : Fin 32) (mi : BitVec 4) (c : Fin 8),
    encode (arInstr j mi destTable[c]) = BitVec.ofNat 13 (mi.toNat * 256 + j.val * 8 + c.val)) ∧
  ∀ (mi : BitVec 4) (dst : Dest) (s : State), s.cfg.operandTable = operandTableRef → (s.mask mi).HasWindow →
    let O := zeroDigits
    let A := s.regA
    let B := s.regB
    let C := s.regC
    let D := s.regD
    let T := tempT (s.mask mi) s
    let pass : Kind → Digits → Digits → Result := fun k X Y =>
      .next (arithOn k X Y (s.mask mi) dst (entered s))
    exec (.addAK mi dst) s = pass .add A O ∧ exec (.subAK mi dst) s = pass .sub A O ∧
    exec (.add0B mi dst) s = pass .add O B ∧ exec (.sub0B mi dst) s = pass .sub O B ∧
    exec (.addCK mi dst) s = pass .add C O ∧ exec (.subCK mi dst) s = pass .sub C O ∧
    exec (.add0D mi dst) s = pass .add O D ∧ exec (.sub0D mi dst) s = pass .sub O D ∧
    exec (.shlA mi dst) s = pass .shl O A ∧ exec (.shrA mi dst) s = pass .shr O A ∧
    exec (.shlB mi dst) s = pass .shl O B ∧ exec (.shrB mi dst) s = pass .shr O B ∧
    exec (.shlC mi dst) s = pass .shl O C ∧ exec (.shrC mi dst) s = pass .shr O C ∧
    exec (.shlD mi dst) s = pass .shl O D ∧ exec (.shrD mi dst) s = pass .shr O D ∧
    exec (.addAB mi dst) s = pass .add A B ∧ exec (.subAB mi dst) s = pass .sub A B ∧
    exec (.addCB mi dst) s = pass .add C B ∧ exec (.subCB mi dst) s = pass .sub C B ∧
    exec (.addCD mi dst) s = pass .add C D ∧ exec (.subCD mi dst) s = pass .sub C D ∧
    exec (.addAD mi dst) s = pass .add A D ∧ exec (.subAD mi dst) s = pass .sub A D ∧
    exec (.addAIO mi dst) s = pass .add A O ∧ exec (.subAIO mi dst) s = pass .sub A O ∧
    exec (.add0K mi dst) s = pass .add O O ∧ exec (.sub0K mi dst) s = pass .sub O O ∧
    exec (.addCIO mi dst) s = pass .add C O ∧ exec (.subCIO mi dst) s = pass .sub C O ∧
    exec (.addR5 mi dst) s = pass .add O T ∧ exec (.subR5 mi dst) s = pass .sub O T

/-! The step: where the decoded instruction runs -/

/-- No encoding makes the core trap, fault or stop: the decoder answers a next state for every word in every
state, and requests no stop (R118). -/
def Obligations.NoEncodingStopsTheCore : Prop :=
  ∀ (w : OpWord) (s : State),
    ∃ t, runDecoder w s = .next t ∧ t.stopReq = s.stopReq ∧ t.ended = s.ended

/-- A run that has not ended always has a next phase; one that has ended has none (20_memory.md R80; the fault is
the model's form of the end, log entry 10). -/
def Obligations.StepAnswersUntilTheEnd : Prop :=
  ∀ s : State,
    (s.ended = false → ∃ t, step s = .next t) ∧ (s.ended = true → step s = .fault .runEnded)

/-- S0 write of normal mode: with the snapshots taken, HOLD and SIN cleared and COND latched, an early word is
executed now (step is exec of the decoded word, then IO and KR are published) and of a late word nothing is
executed (only IO is published, and KR unless the word is EXTKR) (48_coordinator.md R345 to R350). The chips before
and after the core and the sequencer's move are around it. -/
def Obligations.S0WriteRunsEarlyWords : Prop :=
  ∀ s : State, s.ended = false → s.resetCnt = 0 → s.AtS0Write →
    let b := beforeCore s
    let e : State :=
      { b with
        bus := { b.bus with idle := b.idle }
        digit := b.bus.dstate, extSnap := b.bus.ext, keySnap := b.bus.keyLine
        hold := false, sin := zeroDigits, condL := b.condL || b.cond
        late := isLate s.cfg.operandTable (decode s.ilOp) }
    let publish : State → State := fun u =>
      { u with
        ioValid := false
        bus := { u.bus with
          io := if u.ioValid = true then u.ioOut else u.bus.io
          ext := if isExtkr s.ilOp = true then u.bus.ext else rotr16 u.kr } }
    let leave : State → State := fun u => advance (chipWrites s.writesAfter (publish u))
    (isLate s.cfg.operandTable (decode s.ilOp) = false → step s = onNext (exec (decode s.ilOp) e) leave) ∧
    (isLate s.cfg.operandTable (decode s.ilOp) = true → step s = .next (leave e))

/-- S15 read of normal mode: a pending late word is executed now, with SIN sampled from bus.io; then, whatever
HOLD, PREG and COND are, the next word and its address are latched from the bus, and STOP requests the end
(48_coordinator.md R355 to R357). -/
def Obligations.S15ReadRunsLateWordsAndFetches : Prop :=
  ∀ s : State, s.ended = false → s.resetCnt = 0 → s.AtS15Read →
    let b := beforeCore s
    let fetch : State → State := fun u =>
      { u with
        late := false, ilOp := u.bus.irg, ilAddr := u.bus.fetchAddr
        stopReq := u.stopReq || decide (u.bus.fetchAddr = .stop) }
    let leave : State → State := fun u => advance (chipWrites s.writesAfter (fetch u))
    (s.late = true → step s = onNext (exec (decode s.ilOp) { b with sin := b.bus.io }) leave) ∧
    (s.late = false → step s = .next (leave b))

/-- A word put where the decoder takes its word is run by the very next step: it is pending, in normal mode, at
the phase in which S0WriteRunsEarlyWords or S15ReadRunsLateWordsAndFetches runs it (the model's own operation, log
entry 18). -/
def Obligations.PlacedWordIsRunNext : Prop :=
  ∀ (s : State) (w : OpWord),
    let p := s.withFetchWord 16 w.toNat
    p.ilOp = w ∧ p.ended = false ∧ p.resetCnt = 0 ∧
      (isLate s.cfg.operandTable (decode w) = false → p.AtS0Write) ∧
      (isLate s.cfg.operandTable (decode w) = true → p.AtS15Read ∧ p.late = true)

/-! The coordinator's other phases -/

/-- Boot mode: in each phase the core publishes IDLE, drives the load-address request at S0 write, blanks the
display at S14 write, counts at S15 read, and latches the first word and address, with the stop test, at the last
one; nothing else changes, so no instruction executes (48_coordinator.md R341, R342). -/
def Obligations.BootPhasesExecuteNothing : Prop :=
  ∀ s : State, 0 < s.resetCnt →
    coreProcess s = .next
      { s with
        bus := { s.bus with
          idle := if s.bus.write = true then s.idle else s.bus.idle
          ext := if s.AtS0Write then 0x0001 else s.bus.ext
          display := if s.bus.sstate = 14 ∧ s.bus.write = true then blankDisplay else s.bus.display }
        resetCnt := if s.AtS15Read then s.resetCnt - 1 else s.resetCnt
        ilOp := if s.AtS15Read ∧ s.resetCnt = 1 then s.bus.irg else s.ilOp
        ilAddr := if s.AtS15Read ∧ s.resetCnt = 1 then s.bus.fetchAddr else s.ilAddr
        stopReq := s.stopReq || decide (s.AtS15Read ∧ s.resetCnt = 1 ∧ s.bus.fetchAddr = .stop) }

/-- In a phase of normal mode that R340 does not name, the core does nothing but publish IDLE in a write phase. -/
def Obligations.OtherPhasesChangeNothing : Prop :=
  ∀ s : State, s.resetCnt = 0 →
    (s.bus.write = true → s.bus.sstate ∉ [0#4, 1#4, 2#4, 14#4]) →
    (s.bus.write = false → s.bus.sstate ∉ [2#4, 15#4]) →
    coreProcess s = .next
      { s with bus := { s.bus with idle := if s.bus.write = true then s.idle else s.bus.idle } }

/-- S1 write ORs a latched COND onto EXT bit 1 and clears the latch; S2 write ORs HOLD onto EXT bit 2; S2 read
clears KR bit 1, and no other bit, unless EXT bit 2 is set; S14 write blanks the display outputs; nothing else
changes but bus.idle (48_coordinator.md R351 to R354). -/
def Obligations.SignallingPhases : Prop :=
  ∀ s : State, s.resetCnt = 0 →
    (s.bus.sstate = 1 → s.bus.write = true →
      coreProcess s = .next
        { s with
          condL := false
          bus := { s.bus with idle := s.idle, ext := if s.condL = true then s.bus.ext ||| 2#16 else s.bus.ext } }) ∧
    (s.bus.sstate = 2 → s.bus.write = true →
      coreProcess s = .next
        { s with
          bus := { s.bus with idle := s.idle, ext := if s.hold = true then s.bus.ext ||| 4#16 else s.bus.ext } }) ∧
    (s.bus.sstate = 2 → s.bus.write = false →
      ∃ k : Word16, coreProcess s = .next { s with kr := k } ∧
        ∀ b : Fin 16, k.getLsbD b = if b = 1 ∧ s.bus.ext.getLsbD 2 = false then false else s.kr.getLsbD b) ∧
    (s.bus.sstate = 14 → s.bus.write = true →
      coreProcess s = .next { s with bus := { s.bus with idle := s.idle, display := blankDisplay } })

/-- The core changes no bus field in a read phase (20_memory.md R76). In a write phase, in boot mode and in normal mode,
it leaves IDLE on bus.idle as IDLE was before the phase (48_coordinator.md R343), and changes EXT, IO and the display
in the phases coreWrites names and no other field, dstate, sstate and write included (20_memory.md R71). -/
def Obligations.CoreWritesBusInWritePhasesOnly : Prop :=
  ∀ s : State, ∃ t, coreProcess s = .next t ∧
    (s.bus.write = false → t.bus = s.bus) ∧ (s.bus.write = true → t.bus.idle = s.idle) ∧
    (coreWrites s .ext = false → t.bus.ext = s.bus.ext) ∧ (coreWrites s .io = false → t.bus.io = s.bus.io) ∧
    (coreWrites s .display = false → t.bus.display = s.bus.display) ∧
    t.bus = { s.bus with ext := t.bus.ext, io := t.bus.io, display := t.bus.display, idle := t.bus.idle }

/-- The value of EXT during a normal digit-cycle in which no other chip writes it, whatever else the other chips do
(R360): from S0 write KR rotated, KR as the early decoder run left it; from S1 write with bit 1 ORed with the COND of
the start of the digit-cycle; from S2 write to the end with bit 2 ORed with HOLD; then zeroed, unless the run ends
there. For EXTKR only the ORs. -/
def Obligations.ExtDuringADigitCycle : Prop :=
  ∀ s u : State, s.ended = false → s.resetCnt = 0 → s.AtS0Write → s.condL = false → s.bus.ext = 0 →
    s.ExtLeftAlone 32 → s.NoOtherStops 32 →
    s0WriteExecute (publishIdle (beforeCore s)) = .next u →
    let base : Word16 := if isExtkr s.ilOp = true then 0 else rotr16 u.kr
    let withCond : Word16 := if s.cond = true then base ||| 2#16 else base
    let withHold : Word16 := if u.hold = true then withCond ||| 4#16 else withCond
    ∀ n, 1 ≤ n → n ≤ 32 → ∃ t, Sys2Proof.core.run n s = .next t ∧
      t.bus.ext =
        if n ≤ 2 then base else if n ≤ 4 then withCond else if n ≤ 31 ∨ t.ended = true then withHold else 0

/-! The sequencer -/

/-- The order of the phases, and the zeroing: after a write phase comes the read phase of the same serial-state;
after it the next serial-state's write phase; after S15 read the S0 write of the next digit-cycle (15 down to 0,
then 15), with EXT, IRG and IO zeroed and the other fields as they were (20_memory.md R72, R76, R77). The first
digit-cycle starts zeroed too. That nothing else of the bus changes in a read phase is read from R76 (log entry 9), and
that the zeroing belongs to the move after S15 read is the model's choice (log entry 17). -/
def Obligations.PhaseOrderAndZeroing : Prop :=
  (∀ s : State, s.ended = false → ∃ t, step s = .next t ∧
    (s.bus.write = true → t.ended = false ∧ t.bus.write = false ∧ t.bus.sstate = s.bus.sstate ∧
      t.bus.dstate = s.bus.dstate) ∧
    (s.bus.write = false → t.ended = false → s.bus.sstate ≠ 15 →
      t.bus = { s.bus with sstate := s.bus.sstate + 1, write := true }) ∧
    (s.bus.write = false → t.ended = false → s.bus.sstate = 15 →
      t.bus = { s.bus with
        ext := 0, irg := 0, io := zeroDigits, sstate := 0, write := true
        dstate := if s.bus.dstate = 0 then 15 else s.bus.dstate - 1 })) ∧
  ∀ (c : Config) (p : PowerOn) (env : List Frame),
    (State.resetWith c p env).bus.ext = 0 ∧ (State.resetWith c p env).bus.irg = 0 ∧
      (State.resetWith c p env).bus.io = zeroDigits

/-- The run ends after a read phase in which a chip has returned non-zero in its serial-state, and then only: the
core at S15 read of normal mode or of the last boot digit-cycle with STOP on the bus, or another chip. What is kept
of a write phase for its read phase is whether a chip returned non-zero in it, and the core never does (R80). -/
def Obligations.RunEndsOnlyByAStop : Prop :=
  ∀ s : State, s.ended = false → ∃ t, step s = .next t ∧
    (t.ended = true ↔ s.bus.write = false ∧
      (s.stopReq = true ∨ s.othersStop = true ∨
        (s.bus.sstate = 15 ∧ s.resetCnt ≤ 1 ∧ s.bus.fetchAddr = .stop))) ∧
    (s.bus.write = true → t.stopReq = s.othersStop)

/-- No step changes the machine's parameters, and each uses up one frame of the other chips' schedule (00_scope.md
R9; the schedule is the model's form of R78, log entry 7). -/
def Obligations.ParametersAreFixed : Prop :=
  ∀ s : State, s.ended = false → ∃ t, step s = .next t ∧ t.cfg = s.cfg ∧ t.env = s.env.tail

/-! Reset and the invariant -/

/-- The values reset leaves, for every legal value of what is unspecified; and RESETCNT never rises, so boot mode is
entered by reset only (R401). -/
def Obligations.ResetValues : Prop :=
  (∀ (c : Config) (p : PowerOn) (env : List Frame),
    let s := State.resetWith c p env
    s.kr = 0 ∧ s.idle = false ∧ s.hold = false ∧ s.jump = false ∧ s.ioValid = false ∧ s.condL = false ∧
      s.late = false ∧ s.sin = zeroDigits ∧ s.resetCnt = c.bootN ∧
      s.regA = p.regA ∧ s.regB = p.regB ∧ s.regC = p.regC ∧ s.regD = p.regD ∧ s.regE = p.regE ∧
      s.fA = p.fA ∧ s.fB = p.fB ∧ s.sr = p.sr ∧ s.r5 = p.r5 ∧ s.cond = p.cond ∧ s.busy = p.busy ∧
      s.ioOut = p.ioOut ∧ s.digit = p.digit ∧ s.extSnap = p.extSnap ∧ s.keySnap = p.keySnap ∧
      s.ilOp = p.ilOp ∧ s.ilAddr = p.ilAddr) ∧
  ∀ s : State, s.ended = false → ∃ t, step s = .next t ∧ t.resetCnt ≤ s.resetCnt

/-- The invariant holds after reset, for all legal parameters, all unspecified values and any other chips. -/
def Obligations.ResetHasInvariant : Prop :=
  ∀ (c : Config) (p : PowerOn) (env : List Frame), c.Legal → (State.resetWith c p env).Inv

/-- Every step keeps the invariant, whatever the other chips do. -/
def Obligations.StepKeepsInvariant : Prop :=
  ∀ s t : State, s.Inv → step s = .next t → t.Inv

/-- One digit-cycle of boot, from any boot state at S0 write and for any other chips that return zero: 32 steps lower
RESETCNT by one and keep KR, the flags, the latches and the registers (BUSY may be set by the environment); at the
S15 read that brings RESETCNT to 0 the word and the address the bus carries are latched, and the run ends there if
the address is STOP; otherwise the machine stands at the S0 write of the next digit-cycle (48_coordinator.md R341,
R342; 70_reset_and_hazards.md R402, R404). -/
def Obligations.BootDigitCycle : Prop :=
  ∀ s : State, 0 < s.resetCnt → s.ended = false → s.AtS0Write → s.NoOtherStops 32 →
    ∃ r t, Sys2Proof.core.run 31 s = .next r ∧ Sys2Proof.core.run 32 s = .next t ∧ r.AtS15Read ∧
      t.resetCnt = s.resetCnt - 1 ∧
      { t with
        bus := s.bus, stopReq := s.stopReq, ended := s.ended, env := s.env, resetCnt := s.resetCnt
        ilOp := s.ilOp, ilAddr := s.ilAddr, busy := s.busy } = s ∧
      t.busy = (s.busy || (s.env.take 32).any fun f => f.setBusy) ∧ t.env = s.env.drop 32 ∧
      t.ilOp = (if s.resetCnt = 1 then r.bus.irg else s.ilOp) ∧
      t.ilAddr = (if s.resetCnt = 1 then r.bus.fetchAddr else s.ilAddr) ∧
      (t.ended = true ↔ s.resetCnt = 1 ∧ r.bus.fetchAddr = .stop) ∧
      (t.ended = false → t.AtS0Write ∧ t.bus.dstate = nextDstate s.bus.dstate)

/-! Rules over all instructions -/

/-- COND goes from 0 to 1 in a step only by the re-arm, which clears JUMP (10_state.md R33, 41_branch.md R182). -/
def Obligations.CondRisesOnlyByTheRearm : Prop :=
  ∀ s : State, s.ended = false → ∃ t, step s = .next t ∧
    (s.cond = false → t.cond = true → s.jump = true ∧ t.jump = false)

/-- BUSY goes from 0 to 1 in a step only where the environment sets it (10_state.md R35). And what surrounds the core
in a step changes nothing else of it: what comes before the core's invocation changes only the bus, BUSY, the
sequencer's stop and the schedule; the other chips' writes change only the bus, and of the bus never dstate, sstate,
write or idle; the sequencer's move changes only the bus and whether the run has ended (20_memory.md R69, R71, R78). -/
def Obligations.BusySetOnlyByTheEnvironment : Prop :=
  (∀ s : State, s.ended = false → ∃ t, step s = .next t ∧
    (s.busy = false → t.busy = true → s.frame.setBusy = true)) ∧
  ∀ s : State,
    let b := beforeCore s
    let a := chipWrites s.writesAfter s
    let m := advance s
    { b with bus := s.bus, busy := s.busy, stopReq := s.stopReq, env := s.env } = s ∧
      b.busy = (s.busy || s.frame.setBusy) ∧
      b.bus.dstate = s.bus.dstate ∧ b.bus.sstate = s.bus.sstate ∧ b.bus.write = s.bus.write ∧
      b.bus.idle = s.bus.idle ∧
      { a with bus := s.bus } = s ∧
      a.bus.dstate = s.bus.dstate ∧ a.bus.sstate = s.bus.sstate ∧ a.bus.write = s.bus.write ∧
      a.bus.idle = s.bus.idle ∧
      { m with bus := s.bus, ended := s.ended } = s ∧ m.bus.idle = s.bus.idle

/-- The re-arm: an instruction that is not a branch marker first clears JUMP, setting COND if JUMP was 1, and then
executes, so it acts as it does on the state so entered, and leaves JUMP 0; a branch marker leaves JUMP 1 and COND as
it was (R182). -/
def Obligations.RearmOnEntry : Prop :=
  ∀ (i : Instr) (s : State), ∃ t, exec i s = .next t ∧
    (instrClass i ≠ .branch → t.jump = false ∧
      exec i { s with jump := false, cond := if s.jump = true then true else s.cond } = .next t) ∧
    (instrClass i = .branch → t.jump = true ∧ t.cond = s.cond)

/-- No instruction of the flag, keyboard, wait or branch class changes a digit register or IOOUT (10_state.md R21). -/
def Obligations.DigitRegistersByArithmeticOnly : Prop :=
  ∀ (i : Instr) (s : State), instrClass i ≠ .arith →
    ∃ t, exec i s = .next t ∧ (∀ r : Reg, t.reg r = s.reg r) ∧ t.ioOut = s.ioOut

/-- The decoder writes core state only, never a bus field, and of the coordinator's latches none: IL, SIN, LATE,
DIGIT, the snapshots, CONDL and RESETCNT stay (41_branch.md R180). -/
def Obligations.DecoderWritesNoBusField : Prop :=
  ∀ (i : Instr) (s : State), ∃ t, exec i s = .next t ∧
    { t with
      regA := s.regA, regB := s.regB, regC := s.regC, regD := s.regD, regE := s.regE
      fA := s.fA, fB := s.fB, kr := s.kr, sr := s.sr, r5 := s.r5
      idle := s.idle, hold := s.hold, jump := s.jump, ioValid := s.ioValid, cond := s.cond, busy := s.busy
      ioOut := s.ioOut } = s

/-- The control result is NeedsHold exactly when the instruction set HOLD (48_coordinator.md R358). -/
def Obligations.NeedsHoldExactlyWithHold : Prop :=
  ∀ (i : Instr) (s : State), s.hold = false →
    ∃ t, exec i s = .next t ∧ (controlResult i s = .needsHold ↔ t.hold = true)

/-- What the digit registers, fA, fB, SR, R5, JUMP and BUSY hold does not show on the bus in one invocation of the
core, in any phase and for any pending word, but for one case: S0 write of normal mode with an early word pending that
moves it there, an arithmetic word to IO, R5KR or XKRSR (10_state.md R49). -/
def Obligations.HiddenStateDoesNotShowOnTheBus : Prop :=
  ∀ (s : State) (a b c d e : Digits) (fA fB sr : Word16) (r5 : Digit) (jump busy : Bool),
    (s.resetCnt = 0 → s.AtS0Write → isLate s.cfg.operandTable (decode s.ilOp) = false →
      (∀ j mi, decode s.ilOp ≠ arInstr j mi .io) ∧ (∀ x, decode s.ilOp ≠ .r5kr x) ∧
        ∀ x, decode s.ilOp ≠ .xkrsr x) →
    ∃ t u,
      coreProcess s = .next t ∧
      coreProcess
        { s with
          regA := a, regB := b, regC := c, regD := d, regE := e, fA := fA, fB := fB, sr := sr, r5 := r5
          jump := jump, busy := busy } = .next u ∧
      t.bus = u.bus

/-! Branch, flag, wait and keyboard instructions: `entered s` is s after the decoder's entry (R182) -/

/-- BR: any word with bit 12 set; it is executed early, sets JUMP and has no other effect, whether JUMP was 0 or 1
(R181). -/
def Obligations.BranchMarker : Prop :=
  ∀ (t : BitVec 12) (s : State),
    CompletedAs (.br t) (0x1000 + t.toNat) s ∧ (∀ o, isLate o (.br t) = false) ∧
    exec (.br t) s = .next { s with jump := true }

/-- TFA, TFB and TKR clear COND when the tested bit is 1 and leave it when the bit is 0; nothing else changes. -/
def Obligations.BitTests : Prop :=
  ∀ (b : BitVec 4) (s : State),
    CompletedAs (.tfa b) (b.toNat * 16) s ∧
    exec (.tfa b) s = .next { entered s with cond := (s.cond || s.jump) && !s.fA.getLsbD b.toNat } ∧
    CompletedAs (.tfb b) (b.toNat * 16 + 8) s ∧
    exec (.tfb b) s = .next { entered s with cond := (s.cond || s.jump) && !s.fB.getLsbD b.toNat } ∧
    CompletedAs (.tkr b) (0x0A05 + b.toNat * 16) s ∧
    exec (.tkr b) s = .next { entered s with cond := (s.cond || s.jump) && !s.kr.getLsbD b.toNat }

/-- SFA, ZFA, IFA, SFB, ZFB, IFB, SKR and ZKR set, clear or invert bit b of their word; its other bits and
everything else are unchanged. -/
def Obligations.BitWrites : Prop :=
  ∀ (b : BitVec 4) (s : State),
    CompletedAs (.sfa b) (b.toNat * 16 + 1) s ∧
    (∃ w : Word16, exec (.sfa b) s = .next { entered s with fA := w } ∧
      ∀ k : Fin 16, w.getLsbD k = if k.val = b.toNat then true else s.fA.getLsbD k) ∧
    CompletedAs (.zfa b) (b.toNat * 16 + 2) s ∧
    (∃ w : Word16, exec (.zfa b) s = .next { entered s with fA := w } ∧
      ∀ k : Fin 16, w.getLsbD k = if k.val = b.toNat then false else s.fA.getLsbD k) ∧
    CompletedAs (.ifa b) (b.toNat * 16 + 3) s ∧
    (∃ w : Word16, exec (.ifa b) s = .next { entered s with fA := w } ∧
      ∀ k : Fin 16, w.getLsbD k = if k.val = b.toNat then !s.fA.getLsbD k else s.fA.getLsbD k) ∧
    CompletedAs (.sfb b) (b.toNat * 16 + 9) s ∧
    (∃ w : Word16, exec (.sfb b) s = .next { entered s with fB := w } ∧
      ∀ k : Fin 16, w.getLsbD k = if k.val = b.toNat then true else s.fB.getLsbD k) ∧
    CompletedAs (.zfb b) (b.toNat * 16 + 10) s ∧
    (∃ w : Word16, exec (.zfb b) s = .next { entered s with fB := w } ∧
      ∀ k : Fin 16, w.getLsbD k = if k.val = b.toNat then false else s.fB.getLsbD k) ∧
    CompletedAs (.ifb b) (b.toNat * 16 + 11) s ∧
    (∃ w : Word16, exec (.ifb b) s = .next { entered s with fB := w } ∧
      ∀ k : Fin 16, w.getLsbD k = if k.val = b.toNat then !s.fB.getLsbD k else s.fB.getLsbD k) ∧
    CompletedAs (.skr b) (b.toNat * 16 + 5) s ∧
    (∃ w : Word16, exec (.skr b) s = .next { entered s with kr := w } ∧
      ∀ k : Fin 16, w.getLsbD k = if k.val = b.toNat then true else s.kr.getLsbD k) ∧
    CompletedAs (.zkr b) (b.toNat * 16 + 13) s ∧
    (∃ w : Word16, exec (.zkr b) s = .next { entered s with kr := w } ∧
      ∀ k : Fin 16, w.getLsbD k = if k.val = b.toNat then false else s.kr.getLsbD k)

/-- XFAB exchanges bit b of fA and fB, CFAB copies it from fA to fB, CFBA from fB to fA; the other bits and
everything else are unchanged. -/
def Obligations.BitExchangeAndCopies : Prop :=
  ∀ (b : BitVec 4) (s : State),
    CompletedAs (.xfab b) (b.toNat * 16 + 4) s ∧
    (∃ w v : Word16, exec (.xfab b) s = .next { entered s with fA := w, fB := v } ∧
      (∀ k : Fin 16, w.getLsbD k = if k.val = b.toNat then s.fB.getLsbD k else s.fA.getLsbD k) ∧
      ∀ k : Fin 16, v.getLsbD k = if k.val = b.toNat then s.fA.getLsbD k else s.fB.getLsbD k) ∧
    CompletedAs (.cfab b) (b.toNat * 16 + 6) s ∧
    (∃ v : Word16, exec (.cfab b) s = .next { entered s with fB := v } ∧
      ∀ k : Fin 16, v.getLsbD k = if k.val = b.toNat then s.fA.getLsbD k else s.fB.getLsbD k) ∧
    CompletedAs (.cfba b) (b.toNat * 16 + 14) s ∧
    (∃ w : Word16, exec (.cfba b) s = .next { entered s with fA := w } ∧
      ∀ k : Fin 16, w.getLsbD k = if k.val = b.toNat then s.fB.getLsbD k else s.fA.getLsbD k)

/-- The moves between R5 and four bits of a word, for every value of the ignored bits: R5FA and R5FB into bits 1 to
4 of fA and fB, FAR5 and FBR5 out of them, KRR5 and R5KR out of and into bits 4 to 7 of KR; the other bits and
everything else are unchanged. -/
def Obligations.NibbleMoves : Prop :=
  ∀ (b : BitVec 4) (x : BitVec 3) (s : State),
    CompletedAs (.r5fa b) (b.toNat * 16 + 7) s ∧
    (∃ w : Word16, exec (.r5fa b) s = .next { entered s with fA := w } ∧
      ∀ k : Fin 16, w.getLsbD k = if 1 ≤ k.val ∧ k.val ≤ 4 then s.r5.getLsbD (k.val - 1) else s.fA.getLsbD k) ∧
    CompletedAs (.r5fb b) (b.toNat * 16 + 15) s ∧
    (∃ w : Word16, exec (.r5fb b) s = .next { entered s with fB := w } ∧
      ∀ k : Fin 16, w.getLsbD k = if 1 ≤ k.val ∧ k.val ≤ 4 then s.r5.getLsbD (k.val - 1) else s.fB.getLsbD k) ∧
    CompletedAs (.far5 x) (0x0A06 + x.toNat * 32) s ∧
    (∃ v : Digit, exec (.far5 x) s = .next { entered s with r5 := v } ∧
      ∀ k : Fin 4, v.getLsbD k = s.fA.getLsbD (k.val + 1)) ∧
    CompletedAs (.fbr5 x) (0x0A16 + x.toNat * 32) s ∧
    (∃ v : Digit, exec (.fbr5 x) s = .next { entered s with r5 := v } ∧
      ∀ k : Fin 4, v.getLsbD k = s.fB.getLsbD (k.val + 1)) ∧
    CompletedAs (.krr5 x) (0x0A08 + x.toNat * 32) s ∧
    (∃ v : Digit, exec (.krr5 x) s = .next { entered s with r5 := v } ∧
      ∀ k : Fin 4, v.getLsbD k = s.kr.getLsbD (k.val + 4)) ∧
    CompletedAs (.r5kr x) (0x0A18 + x.toNat * 32) s ∧
    (∃ w : Word16, exec (.r5kr x) s = .next { entered s with kr := w } ∧
      ∀ k : Fin 16, w.getLsbD k = if 4 ≤ k.val ∧ k.val ≤ 7 then s.r5.getLsbD (k.val - 4) else s.kr.getLsbD k)

/-- The reserved encodings FRSV, WAITBUSY, WRSV14 and WRSV15 are no-operations but for the re-arm, for every value
of b (R203, R245, R259, R260). -/
def Obligations.ReservedWordsDoNothing : Prop :=
  ∀ (b : BitVec 4) (s : State),
    CompletedAs (.frsv b) (b.toNat * 16 + 12) s ∧ exec (.frsv b) s = .next (entered s) ∧
    CompletedAs (.waitbusy b) (0x0A03 + b.toNat * 16) s ∧ exec (.waitbusy b) s = .next (entered s) ∧
    CompletedAs (.wrsv14 b) (0x0A0E + b.toNat * 16) s ∧ exec (.wrsv14 b) s = .next (entered s) ∧
    CompletedAs (.wrsv15 b) (0x0A0F + b.toNat * 16) s ∧ exec (.wrsv15 b) s = .next (entered s)

/-- CLRFA, CLRFB, LDR5, SETIDLE, CLRIDLE and XKRSR write their whole register or flag; nothing else changes. -/
def Obligations.WholeRegisterOps : Prop :=
  ∀ (b : BitVec 4) (s : State),
    CompletedAs (.clrfa b) (0x0A02 + b.toNat * 16) s ∧
    exec (.clrfa b) s = .next { entered s with fA := 0 } ∧
    CompletedAs (.clrfb b) (0x0A0A + b.toNat * 16) s ∧
    exec (.clrfb b) s = .next { entered s with fB := 0 } ∧
    CompletedAs (.ldr5 b) (0x0A07 + b.toNat * 16) s ∧
    exec (.ldr5 b) s = .next { entered s with r5 := b } ∧
    CompletedAs (.setidle b) (0x0A09 + b.toNat * 16) s ∧
    exec (.setidle b) s = .next { entered s with idle := true } ∧
    CompletedAs (.clridle b) (0x0A01 + b.toNat * 16) s ∧
    exec (.clridle b) s = .next { entered s with idle := false } ∧
    CompletedAs (.xkrsr b) (0x0A0D + b.toNat * 16) s ∧
    exec (.xkrsr b) s = .next { entered s with kr := s.sr, sr := s.kr }

/-- INCKR steps the 13-bit EXT payload of KR by one, modulo 2^13; KR bits 1, 2 and 3 and everything else are
unchanged. -/
def Obligations.InckrStepsThePayload : Prop :=
  ∀ (b : BitVec 4) (s : State), CompletedAs (.inckr b) (0x0A04 + b.toNat * 16) s ∧ ∃ k : Word16,
    exec (.inckr b) s = .next { entered s with kr := k } ∧
    payload k = (payload s.kr + 1) % 8192 ∧
    k.getLsbD 1 = s.kr.getLsbD 1 ∧ k.getLsbD 2 = s.kr.getLsbD 2 ∧ k.getLsbD 3 = s.kr.getLsbD 3

/-- EXTKR, executed late, loads KR from EXT rotated left by one, so that EXT bit i goes to KR bit (i + 1) mod 16, and a
published KR is read back unchanged; nothing else changes. -/
def Obligations.ExtkrReadsTheBusBack : Prop :=
  ∀ (b : BitVec 4) (s : State),
    CompletedAs (.extkr b) (0x0A0C + b.toNat * 16) s ∧ (∀ o, isLate o (.extkr b) = true) ∧
    (∃ k : Word16, exec (.extkr b) s = .next { entered s with kr := k } ∧
      ∀ i : Fin 16, k.getLsbD ((i.val + 1) % 16) = s.bus.ext.getLsbD i) ∧
    ∀ v : Word16, s.bus.ext = rotr16 v → exec (.extkr b) s = .next { entered s with kr := v }

/-- TBUSY clears COND and BUSY when BUSY is 1 or any key of the row is pressed, for either polarity of the key line;
otherwise nothing changes. -/
def Obligations.BusyTest : Prop :=
  ∀ (b : BitVec 4) (s : State),
    CompletedAs (.tbusy b) (0x0A0B + b.toNat * 16) s ∧
    ((s.busy = true ∨ ∃ n : Fin 7, pressed s 0x7F n = true) →
      exec (.tbusy b) s = .next { entered s with cond := false, busy := false }) ∧
    (¬ (s.busy = true ∨ ∃ n : Fin 7, pressed s 0x7F n = true) → exec (.tbusy b) s = .next (entered s))

/-- WAITD b sets HOLD in every digit-cycle but b, needs a retry, and does nothing else; in digit-cycle b it completes
with no effect but the re-arm. Digit-cycle b is at most 15 digit-cycles away (R242). -/
def Obligations.WaitForDigitCycle : Prop :=
  ∀ (b : BitVec 4) (s : State),
    encode (.waitd b) = BitVec.ofNat 13 (0x0A00 + b.toNat * 16) ∧
    (s.digit = b → exec (.waitd b) s = .next (entered s) ∧ controlResult (.waitd b) s = .completed) ∧
    (s.digit ≠ b →
      exec (.waitd b) s = .next { entered s with hold := true } ∧ controlResult (.waitd b) s = .needsHold) ∧
    ∃ k, k ≤ 15 ∧ nextDstate^[k] s.digit = b

/-- KSCAN with exactly one pressed key under the mask clears COND and loads the whole of KR with DIGIT in bits 11..8
and the key's line in bits 7..4; with none or with several it sets HOLD and needs a retry while DIGIT is not 0, and
completes with no effect at DIGIT 0. For either polarity of the key line (R223). -/
def Obligations.FullKeyboardScan : Prop :=
  ∀ (mask : KeyRow) (s : State),
    encode (.kscan mask) = BitVec.ofNat 13 (0x0808 + mask.toNat / 8 * 16 + mask.toNat % 8) ∧
    (∀ n : Fin 7, OnlyKey s mask n →
      exec (.kscan mask) s =
        .next { entered s with cond := false, kr := BitVec.ofNat 16 (s.digit.toNat * 256 + n.val * 16) } ∧
      controlResult (.kscan mask) s = .completed) ∧
    ((¬ ∃ n : Fin 7, OnlyKey s mask n) →
      (s.digit ≠ 0 →
        exec (.kscan mask) s = .next { entered s with hold := true } ∧
        controlResult (.kscan mask) s = .needsHold) ∧
      (s.digit = 0 →
        exec (.kscan mask) s = .next (entered s) ∧ controlResult (.kscan mask) s = .completed))

/-- KTEST with exactly one pressed key under the mask clears COND; with none or with several it changes nothing but
the re-arm. It never writes KR, never sets HOLD and always completes (R227). -/
def Obligations.KeyboardRowTest : Prop :=
  ∀ (mask : KeyRow) (s : State),
    CompletedAs (.ktest mask) (0x0800 + mask.toNat / 8 * 16 + mask.toNat % 8) s ∧
    ((∃ n : Fin 7, OnlyKey s mask n) → exec (.ktest mask) s = .next { entered s with cond := false }) ∧
    ((¬ ∃ n : Fin 7, OnlyKey s mask n) → exec (.ktest mask) s = .next (entered s))

/-! Arithmetic: `arInstr j mi dst` is the instruction of operand entry j, all 32 of them. The statements hold for every
operand table and every mask table the machine may have; with the reference operand table the kind and the operands
of each are those of ArithmeticWords. -/

/-- Every arithmetic instruction (addAK, subAK, add0B, sub0B, addCK, subCK, add0D, sub0D, shlA, shrA, shlB, shrB,
shlC, shrC, shlD, shrD, addAB, subAB, addCB, subCB, addCD, subCD, addAD, subAD, addAIO, subAIO, add0K, sub0K,
addCIO, subCIO, addR5, subR5) with a register destination: the destination's digits are those of the window
computation in exact arithmetic, R5 is the corrected digit at the window's start, COND is cleared by an ADD or SUB
that carries out of the window; nothing else changes (45_arithmetic.md R285, R286, R291). -/
def Obligations.ArithmeticToARegister : Prop :=
  ∀ (j : Fin 32) (mi : BitVec 4) (dst : Dest) (q : Reg) (s : State),
    (s.mask mi).HasWindow →
    (dst, q) ∈ [(Dest.a, Reg.a), (Dest.b, Reg.b), (Dest.c, Reg.c), (Dest.d, Reg.d)] →
    let m := s.mask mi
    let k := entryKind j s
    let x := natX j s
    let y := natY j m s
    ∃ (D : Digits) (r : Digit),
      exec (arInstr j mi dst) s =
        .next { (entered s).setReg q D with r5 := r, cond := condAfter k m x y (s.cond || s.jump) } ∧
      r.toNat = windowDigit k m.start x y m.start ∧
      ∀ i : Fin 16, (digitAt D i).toNat = windowResult k m x y (digitAt (s.reg q) i).toNat i

/-- The same 32 instructions with the IO destination: IOOUT holds the window computation inside the window and 0
outside, IOVALID is set, no digit register changes (45_arithmetic.md R288). -/
def Obligations.ArithmeticToIo : Prop :=
  ∀ (j : Fin 32) (mi : BitVec 4) (s : State), (s.mask mi).HasWindow →
    let m := s.mask mi
    let k := entryKind j s
    let x := natX j s
    let y := natY j m s
    ∃ (D : Digits) (r : Digit),
      exec (arInstr j mi .io) s =
        .next { entered s with
          ioOut := D, ioValid := true, r5 := r, cond := condAfter k m x y (s.cond || s.jump) } ∧
      r.toNat = windowDigit k m.start x y m.start ∧
      ∀ i : Fin 16, (digitAt D i).toNat = windowResult k m x y 0 i

/-- The same 32 instructions with an exchange code: the pass latches R5 and may clear COND but writes no digit; then
the two registers are exchanged over the window; nothing else changes (45_arithmetic.md R287, R290). -/
def Obligations.ArithmeticThenExchange : Prop :=
  ∀ (j : Fin 32) (mi : BitVec 4) (dst : Dest) (p q : Reg) (s : State),
    (s.mask mi).HasWindow →
    (dst, p, q) ∈ [(Dest.xab, Reg.a, Reg.b), (Dest.xcd, Reg.c, Reg.d), (Dest.xae, Reg.a, Reg.e)] →
    let m := s.mask mi
    let k := entryKind j s
    let x := natX j s
    let y := natY j m s
    ∃ (P Q : Digits) (r : Digit),
      exec (arInstr j mi dst) s =
        .next { ((entered s).setReg p P).setReg q Q with
          r5 := r, cond := condAfter k m x y (s.cond || s.jump) } ∧
      r.toNat = windowDigit k m.start x y m.start ∧
      ∀ i : Fin 16,
        digitAt P i = (if m.InWindow i then digitAt (s.reg q) i else digitAt (s.reg p) i) ∧
        digitAt Q i = (if m.InWindow i then digitAt (s.reg p) i else digitAt (s.reg q) i)

/-- Under a mask without a window the pass and the exchange change nothing at all: no digit, not R5, not COND; only
the IO destination's clearing of IOOUT and setting of IOVALID remain (40_alu_exchange.md R156, R160). -/
def Obligations.MalformedMaskChangesNothing : Prop :=
  ∀ (j : Fin 32) (mi : BitVec 4) (dst : Dest) (s : State), ¬ (s.mask mi).HasWindow →
    exec (arInstr j mi dst) s =
      .next (if dst = .io then { entered s with ioOut := zeroDigits, ioValid := true } else entered s)

/-- The window as a number: over a window without digit 0, with no serial input, no constant and decimal operands,
ADD writes the digits of the sum and SUB those of the difference modulo 10^n, and COND is cleared exactly on a
sum of 10^n or more and on a negative difference (R162). -/
def Obligations.DecimalAddAndSubtract : Prop :=
  ∀ (j : Fin 32) (mi : BitVec 4) (dst : Dest) (s : State),
    let m := s.mask mi
    let n := m.last.val + 1 - m.start.val
    let nx := decimalValue (entryX j s) m.start n
    let ny := decimalValue (entryY j m s) m.start n
    m.HasWindow → 1 ≤ m.start.val → m.cval = 0 → s.SerialSilent →
    DecimalIn m (entryX j s) → DecimalIn m (entryY j m s) →
    ∃ t, exec (arInstr j mi dst) s = .next t ∧
      (entryKind j s = .add →
        t.cond = ((s.cond || s.jump) && decide (nx + ny < 10 ^ n)) ∧
        (∀ q : Reg, (dst, q) ∈ [(Dest.a, Reg.a), (Dest.b, Reg.b), (Dest.c, Reg.c), (Dest.d, Reg.d)] →
          DecimalIn m (t.reg q) ∧ decimalValue (t.reg q) m.start n = (nx + ny) % 10 ^ n) ∧
        (dst = .io → DecimalIn m t.ioOut ∧ decimalValue t.ioOut m.start n = (nx + ny) % 10 ^ n)) ∧
      (entryKind j s = .sub →
        t.cond = ((s.cond || s.jump) && decide (ny ≤ nx)) ∧
        (∀ q : Reg, (dst, q) ∈ [(Dest.a, Reg.a), (Dest.b, Reg.b), (Dest.c, Reg.c), (Dest.d, Reg.d)] →
          DecimalIn m (t.reg q) ∧ decimalValue (t.reg q) m.start n = (nx + 10 ^ n - ny) % 10 ^ n) ∧
        (dst = .io → DecimalIn m t.ioOut ∧ decimalValue t.ioOut m.start n = (nx + 10 ^ n - ny) % 10 ^ n))

/-- A window that contains digit 0 is a mixed-radix number: digit 0 counts 0..15, and the decimal digits above it
count sixteens; ADD and SUB work modulo 16 * 10^last (40_alu_exchange.md R164). -/
def Obligations.MixedRadixAddAndSubtract : Prop :=
  ∀ (j : Fin 32) (mi : BitVec 4) (dst : Dest) (q : Reg) (s : State),
    let m := s.mask mi
    let top := 16 * 10 ^ m.last.val
    let nx := mixedValue (entryX j s) m.last
    let ny := mixedValue (entryY j m s) m.last
    m.start.val = 0 → m.cval = 0 → s.SerialSilent →
    DecimalIn m (entryX j s) → DecimalIn m (entryY j m s) →
    (dst, q) ∈ [(Dest.a, Reg.a), (Dest.b, Reg.b), (Dest.c, Reg.c), (Dest.d, Reg.d)] →
    ∃ t, exec (arInstr j mi dst) s = .next t ∧
      (entryKind j s = .add →
        mixedValue (t.reg q) m.last = (nx + ny) % top ∧
        t.cond = ((s.cond || s.jump) && decide (nx + ny < top))) ∧
      (entryKind j s = .sub →
        mixedValue (t.reg q) m.last = (nx + top - ny) % top ∧
        t.cond = ((s.cond || s.jump) && decide (ny ≤ nx)))

/-- BCD closure: at digit indices 1 to 15, if every X digit and every effective Y digit of the window is decimal,
every digit ADD or SUB writes is decimal; at digit 0 this fails (R163). -/
def Obligations.BcdClosure : Prop :=
  (∀ (j : Fin 32) (mi : BitVec 4) (dst : Dest) (s : State),
    (s.mask mi).HasWindow → (entryKind j s = .add ∨ entryKind j s = .sub) →
    DecimalIn (s.mask mi) (entryX j s) →
    (∀ i : Fin 16, 1 ≤ i.val → (s.mask mi).InWindow i → natY j (s.mask mi) s i ≤ 9) →
    ∃ t, exec (arInstr j mi dst) s = .next t ∧
      (∀ q : Reg, (dst, q) ∈ [(Dest.a, Reg.a), (Dest.b, Reg.b), (Dest.c, Reg.c), (Dest.d, Reg.d)] →
        DecimalIn (s.mask mi) (t.reg q)) ∧
      (dst = .io → DecimalIn (s.mask mi) t.ioOut)) ∧
  ∃ (s t : State), (s.mask 1).HasWindow ∧ (∀ i : Fin 16, (digitAt s.regA i).toNat ≤ 9) ∧
    (∀ i : Fin 16, natY 16 (s.mask 1) s i ≤ 9) ∧ exec (.addAB 1 .a) s = .next t ∧
    9 < (digitAt t.regA 0).toNat

/-- The shift entries (with the reference table shlA, shlB, shlC, shlD, shrA, shrB, shrC, shrD), which have no first
operand, with a register destination and decimal second operand: SHL moves the window one digit up with 0 entering at its start, SHR one digit down with 0 entering at its
end, R5 receives the operand's start digit, COND is not changed (40_alu_exchange.md R151, R152, R154). -/
def Obligations.ShiftsMoveDigits : Prop :=
  ∀ (j : Fin 32) (mi : BitVec 4) (dst : Dest) (q : Reg) (s : State),
    let m := s.mask mi
    let y := natY j m s
    m.HasWindow → (entryKind j s = .shl ∨ entryKind j s = .shr) → entryX j s = zeroDigits →
    (∀ i : Fin 16, 1 ≤ i.val → m.InWindow i → y i ≤ 9) →
    (dst, q) ∈ [(Dest.a, Reg.a), (Dest.b, Reg.b), (Dest.c, Reg.c), (Dest.d, Reg.d)] →
    ∃ t, exec (arInstr j mi dst) s = .next t ∧ t.r5.toNat = y m.start ∧ t.cond = (s.cond || s.jump) ∧
      (entryKind j s = .shl → ∀ i : Fin 16, (digitAt (t.reg q) i).toNat =
        if m.InWindow i then (if i = m.start then 0 else y (i.val - 1)) else (digitAt (s.reg q) i).toNat) ∧
      (entryKind j s = .shr → ∀ i : Fin 16, (digitAt (t.reg q) i).toNat =
        if m.InWindow i then (if i = m.last then 0 else y (i.val + 1)) else (digitAt (s.reg q) i).toNat)

/-- R5-to-adder, the entries whose X is the special source R5 (with the reference table addR5 and subR5), over a window
of decimal digits with no constant and no serial input: an ADD entry writes the decimal form of R5 (for 10 to 15 the
start digit R5 - 10 and 1 above it, or a cleared COND where the window is one digit wide). A SUB entry clears COND
unless R5 is 0, and writes for R5 = 0 zeros, for R5 = 1 to 10 its ten's complement over the window, and for R5 = 11 to
15, where a digit above 9 is computed on, the start digit 26 - R5 with nines above it (45_arithmetic.md R292, R330,
R331; 40_alu_exchange.md R149, R167). -/
def Obligations.R5ToAdder : Prop :=
  ∀ (j : Fin 32) (mi : BitVec 4) (dst : Dest) (q : Reg) (s : State),
    let m := s.mask mi
    let r := s.r5.toNat
    s.cfg.operandTable[j].x = .r5 → m.HasWindow → 1 ≤ m.start.val → m.cval = 0 → s.SerialSilent →
    (dst, q) ∈ [(Dest.a, Reg.a), (Dest.b, Reg.b), (Dest.c, Reg.c), (Dest.d, Reg.d)] →
    ∃ t, exec (arInstr j mi dst) s = .next t ∧
      (entryKind j s = .add →
        t.r5.toNat = r % 10 ∧
        t.cond = ((s.cond || s.jump) && !decide (10 ≤ r ∧ m.start = m.last)) ∧
        ∀ i : Fin 16, m.InWindow i → (digitAt (t.reg q) i).toNat =
          if i = m.start then r % 10 else if i.val = m.start.val + 1 ∧ 10 ≤ r then 1 else 0) ∧
      (entryKind j s = .sub →
        t.r5.toNat = (if r = 0 then 0 else (26 - r) % 16) ∧
        t.cond = ((s.cond || s.jump) && decide (r = 0)) ∧
        ∀ i : Fin 16, m.InWindow i → (digitAt (t.reg q) i).toNat =
          if r = 0 then 0 else if i = m.start then (26 - r) % 16 else 9)

/-- R5 and COND do not depend on where an arithmetic instruction's result goes (40_alu_exchange.md R151, R155,
45_arithmetic.md R287). -/
def Obligations.R5AndCondRegardlessOfDestination : Prop :=
  ∀ (j : Fin 32) (mi : BitVec 4) (d1 d2 : Dest) (s : State),
    ∃ t u, exec (arInstr j mi d1) s = .next t ∧ exec (arInstr j mi d2) s = .next u ∧
      t.r5 = u.r5 ∧ t.cond = u.cond

/-! The two primitives -/

/-- Add then subtract the same operand under one mask restores every register, and leaves R5 equal to the restored
start digit; COND is not restored: either pass may clear it and neither sets it (R165). -/
def Obligations.AddThenSubtractRestores : Prop :=
  let addThenSubtract : Reg → Reg → MaskDesc → State → State := fun x y m s =>
    let t := alu .add (s.reg x) (s.reg y) (.reg x) m s
    alu .sub (t.reg x) (t.reg y) (.reg x) m t
  let applies : Reg → Reg → MaskDesc → State → Prop := fun x y m s =>
    x ≠ y ∧ m.HasWindow ∧ m.cval = 0 ∧ s.SerialSilent ∧ DecimalIn m (s.reg x) ∧ DecimalIn m (s.reg y)
  (∀ (x y : Reg) (m : MaskDesc) (s : State), applies x y m s →
    let u := addThenSubtract x y m s
    (∀ r : Reg, u.reg r = s.reg r) ∧ u.r5 = digitAt (s.reg x) m.start ∧ (u.cond = true → s.cond = true)) ∧
  ∃ (x y : Reg) (m : MaskDesc) (s : State), applies x y m s ∧ s.cond = true ∧
    (addThenSubtract x y m s).cond = false

/-- Shift left then shift right of one register under one mask restores the window but for its last digit, which
becomes 0 (R166); shift right then shift left restores it but for its first digit, which becomes 0 (90_conflicts.md
C6). -/
def Obligations.ShiftLeftThenRight : Prop :=
  ∀ (r : Reg) (m : MaskDesc) (s : State),
    m.HasWindow → m.cval = 0 → s.SerialSilent → DecimalIn m (s.reg r) →
    let shift : Kind → State → State := fun k t => alu k zeroDigits (t.reg r) (.reg r) m t
    ∀ i : Fin 16,
      digitAt ((shift .shr (shift .shl s)).reg r) i = (if i = m.last then 0 else digitAt (s.reg r) i) ∧
      digitAt ((shift .shl (shift .shr s)).reg r) i = (if i = m.start then 0 else digitAt (s.reg r) i)

/-- The pass in place, reading each digit from the registers as they are at that moment, gives what the pass on
copies gives, whatever registers the operands and the destination are (R157). -/
def Obligations.PassInPlaceEqualsPassOnCopies : Prop :=
  ∀ (k : Kind) (x y : Option Reg) (t : Target) (m : MaskDesc) (s : State), m.HasWindow →
    (inPlaceUpto k x y t m s 16).1 =
      alu k (match x with | none => zeroDigits | some r => s.reg r)
        (match y with | none => zeroDigits | some r => s.reg r) t m s

/-- Two consecutive exchanges of the same pair under the same mask restore the machine (R161). -/
def Obligations.ExchangeTwiceRestores : Prop :=
  ∀ (p q : Reg) (m : MaskDesc) (s : State), p ≠ q → exchange p q m (exchange p q m s) = s

/-! Attachment order -/

/-- Where no bus field has two writers in the phase to come, the attachment order does not decide what the writes
leave: other orders of the other chips on either side of the core give the same step, and so do orders that move
chips across the core, where these write neither EXT nor the key line at an S0 write (the core reads both there, so
before or after it is a difference of what it reads, not of the writes) (20_memory.md R83, R88; 70_reset_and_hazards.md
R418; the order as configuration: log entry 8). -/
def Obligations.AttachmentOrderDoesNotDecide : Prop :=
  ∀ (s : State) (before after : List Nat),
    let reattach : State → State := fun t =>
      { t with cfg := { t.cfg with attachedBefore := before, attachedAfter := after } }
    s.ended = false → s.cfg.attached.Nodup → s.SingleWriter →
    ((before.Perm s.cfg.attachedBefore ∧ after.Perm s.cfg.attachedAfter) ∨
      ((before ++ after).Perm s.cfg.attached ∧
        (s.AtS0Write →
          ∀ n ∈ s.cfg.attached, s.frame.writes n .ext = false ∧ s.frame.writes n .keyLine = false))) →
    ∃ t, step s = .next t ∧ step (reattach s) = .next (reattach t)
end

