-- ==== Sys2Proof/Laws/State.lean ====
section
/-!
SUPPORT. One lemma per field per named update of the state, so that no later proof unfolds a record update.
-/
namespace Sys2Proof.Machine

open Sys2Proof

@[simp] theorem setReg_fA (s : State) (r : Reg) (v : Digits) : (s.setReg r v).fA = s.fA := by
  cases r <;> rfl

@[simp] theorem setReg_fB (s : State) (r : Reg) (v : Digits) : (s.setReg r v).fB = s.fB := by
  cases r <;> rfl

@[simp] theorem setReg_kr (s : State) (r : Reg) (v : Digits) : (s.setReg r v).kr = s.kr := by
  cases r <;> rfl

@[simp] theorem setReg_sr (s : State) (r : Reg) (v : Digits) : (s.setReg r v).sr = s.sr := by
  cases r <;> rfl

@[simp] theorem setReg_r5 (s : State) (r : Reg) (v : Digits) : (s.setReg r v).r5 = s.r5 := by
  cases r <;> rfl

@[simp] theorem setReg_idle (s : State) (r : Reg) (v : Digits) : (s.setReg r v).idle = s.idle := by
  cases r <;> rfl

@[simp] theorem setReg_hold (s : State) (r : Reg) (v : Digits) : (s.setReg r v).hold = s.hold := by
  cases r <;> rfl

@[simp] theorem setReg_jump (s : State) (r : Reg) (v : Digits) : (s.setReg r v).jump = s.jump := by
  cases r <;> rfl

@[simp] theorem setReg_ioValid (s : State) (r : Reg) (v : Digits) : (s.setReg r v).ioValid = s.ioValid := by
  cases r <;> rfl

@[simp] theorem setReg_cond (s : State) (r : Reg) (v : Digits) : (s.setReg r v).cond = s.cond := by
  cases r <;> rfl

@[simp] theorem setReg_condL (s : State) (r : Reg) (v : Digits) : (s.setReg r v).condL = s.condL := by
  cases r <;> rfl

@[simp] theorem setReg_busy (s : State) (r : Reg) (v : Digits) : (s.setReg r v).busy = s.busy := by
  cases r <;> rfl

@[simp] theorem setReg_ilOp (s : State) (r : Reg) (v : Digits) : (s.setReg r v).ilOp = s.ilOp := by
  cases r <;> rfl

@[simp] theorem setReg_ilAddr (s : State) (r : Reg) (v : Digits) : (s.setReg r v).ilAddr = s.ilAddr := by
  cases r <;> rfl

@[simp] theorem setReg_sin (s : State) (r : Reg) (v : Digits) : (s.setReg r v).sin = s.sin := by
  cases r <;> rfl

@[simp] theorem setReg_ioOut (s : State) (r : Reg) (v : Digits) : (s.setReg r v).ioOut = s.ioOut := by
  cases r <;> rfl

@[simp] theorem setReg_late (s : State) (r : Reg) (v : Digits) : (s.setReg r v).late = s.late := by
  cases r <;> rfl

@[simp] theorem setReg_digit (s : State) (r : Reg) (v : Digits) : (s.setReg r v).digit = s.digit := by
  cases r <;> rfl

@[simp] theorem setReg_extSnap (s : State) (r : Reg) (v : Digits) : (s.setReg r v).extSnap = s.extSnap := by
  cases r <;> rfl

@[simp] theorem setReg_keySnap (s : State) (r : Reg) (v : Digits) : (s.setReg r v).keySnap = s.keySnap := by
  cases r <;> rfl

@[simp] theorem setReg_resetCnt (s : State) (r : Reg) (v : Digits) : (s.setReg r v).resetCnt = s.resetCnt := by
  cases r <;> rfl

@[simp] theorem setReg_bus (s : State) (r : Reg) (v : Digits) : (s.setReg r v).bus = s.bus := by
  cases r <;> rfl

@[simp] theorem setReg_stopReq (s : State) (r : Reg) (v : Digits) : (s.setReg r v).stopReq = s.stopReq := by
  cases r <;> rfl

@[simp] theorem setReg_ended (s : State) (r : Reg) (v : Digits) : (s.setReg r v).ended = s.ended := by
  cases r <;> rfl

@[simp] theorem setReg_cfg (s : State) (r : Reg) (v : Digits) : (s.setReg r v).cfg = s.cfg := by
  cases r <;> rfl

@[simp] theorem setReg_env (s : State) (r : Reg) (v : Digits) : (s.setReg r v).env = s.env := by
  cases r <;> rfl

@[simp] theorem setTarget_fA (s : State) (t : Target) (v : Digits) : (s.setTarget t v).fA = s.fA := by
  cases t <;> simp [State.setTarget]

@[simp] theorem setTarget_fB (s : State) (t : Target) (v : Digits) : (s.setTarget t v).fB = s.fB := by
  cases t <;> simp [State.setTarget]

@[simp] theorem setTarget_kr (s : State) (t : Target) (v : Digits) : (s.setTarget t v).kr = s.kr := by
  cases t <;> simp [State.setTarget]

@[simp] theorem setTarget_sr (s : State) (t : Target) (v : Digits) : (s.setTarget t v).sr = s.sr := by
  cases t <;> simp [State.setTarget]

@[simp] theorem setTarget_r5 (s : State) (t : Target) (v : Digits) : (s.setTarget t v).r5 = s.r5 := by
  cases t <;> simp [State.setTarget]

@[simp] theorem setTarget_idle (s : State) (t : Target) (v : Digits) : (s.setTarget t v).idle = s.idle := by
  cases t <;> simp [State.setTarget]

@[simp] theorem setTarget_hold (s : State) (t : Target) (v : Digits) : (s.setTarget t v).hold = s.hold := by
  cases t <;> simp [State.setTarget]

@[simp] theorem setTarget_jump (s : State) (t : Target) (v : Digits) : (s.setTarget t v).jump = s.jump := by
  cases t <;> simp [State.setTarget]

@[simp] theorem setTarget_ioValid (s : State) (t : Target) (v : Digits) : (s.setTarget t v).ioValid = s.ioValid := by
  cases t <;> simp [State.setTarget]

@[simp] theorem setTarget_cond (s : State) (t : Target) (v : Digits) : (s.setTarget t v).cond = s.cond := by
  cases t <;> simp [State.setTarget]

@[simp] theorem setTarget_condL (s : State) (t : Target) (v : Digits) : (s.setTarget t v).condL = s.condL := by
  cases t <;> simp [State.setTarget]

@[simp] theorem setTarget_busy (s : State) (t : Target) (v : Digits) : (s.setTarget t v).busy = s.busy := by
  cases t <;> simp [State.setTarget]

@[simp] theorem setTarget_ilOp (s : State) (t : Target) (v : Digits) : (s.setTarget t v).ilOp = s.ilOp := by
  cases t <;> simp [State.setTarget]

@[simp] theorem setTarget_ilAddr (s : State) (t : Target) (v : Digits) : (s.setTarget t v).ilAddr = s.ilAddr := by
  cases t <;> simp [State.setTarget]

@[simp] theorem setTarget_sin (s : State) (t : Target) (v : Digits) : (s.setTarget t v).sin = s.sin := by
  cases t <;> simp [State.setTarget]

@[simp] theorem setTarget_late (s : State) (t : Target) (v : Digits) : (s.setTarget t v).late = s.late := by
  cases t <;> simp [State.setTarget]

@[simp] theorem setTarget_digit (s : State) (t : Target) (v : Digits) : (s.setTarget t v).digit = s.digit := by
  cases t <;> simp [State.setTarget]

@[simp] theorem setTarget_extSnap (s : State) (t : Target) (v : Digits) : (s.setTarget t v).extSnap = s.extSnap := by
  cases t <;> simp [State.setTarget]

@[simp] theorem setTarget_keySnap (s : State) (t : Target) (v : Digits) : (s.setTarget t v).keySnap = s.keySnap := by
  cases t <;> simp [State.setTarget]

@[simp] theorem setTarget_resetCnt (s : State) (t : Target) (v : Digits) : (s.setTarget t v).resetCnt = s.resetCnt := by
  cases t <;> simp [State.setTarget]

@[simp] theorem setTarget_bus (s : State) (t : Target) (v : Digits) : (s.setTarget t v).bus = s.bus := by
  cases t <;> simp [State.setTarget]

@[simp] theorem setTarget_stopReq (s : State) (t : Target) (v : Digits) : (s.setTarget t v).stopReq = s.stopReq := by
  cases t <;> simp [State.setTarget]

@[simp] theorem setTarget_ended (s : State) (t : Target) (v : Digits) : (s.setTarget t v).ended = s.ended := by
  cases t <;> simp [State.setTarget]

@[simp] theorem setTarget_cfg (s : State) (t : Target) (v : Digits) : (s.setTarget t v).cfg = s.cfg := by
  cases t <;> simp [State.setTarget]

@[simp] theorem setTarget_env (s : State) (t : Target) (v : Digits) : (s.setTarget t v).env = s.env := by
  cases t <;> simp [State.setTarget]

@[simp] theorem rearm_regA (s : State) : (rearm s).regA = s.regA := by
  unfold rearm; split <;> rfl

@[simp] theorem rearm_regB (s : State) : (rearm s).regB = s.regB := by
  unfold rearm; split <;> rfl

@[simp] theorem rearm_regC (s : State) : (rearm s).regC = s.regC := by
  unfold rearm; split <;> rfl

@[simp] theorem rearm_regD (s : State) : (rearm s).regD = s.regD := by
  unfold rearm; split <;> rfl

@[simp] theorem rearm_regE (s : State) : (rearm s).regE = s.regE := by
  unfold rearm; split <;> rfl

@[simp] theorem rearm_fA (s : State) : (rearm s).fA = s.fA := by
  unfold rearm; split <;> rfl

@[simp] theorem rearm_fB (s : State) : (rearm s).fB = s.fB := by
  unfold rearm; split <;> rfl

@[simp] theorem rearm_kr (s : State) : (rearm s).kr = s.kr := by
  unfold rearm; split <;> rfl

@[simp] theorem rearm_sr (s : State) : (rearm s).sr = s.sr := by
  unfold rearm; split <;> rfl

@[simp] theorem rearm_r5 (s : State) : (rearm s).r5 = s.r5 := by
  unfold rearm; split <;> rfl

@[simp] theorem rearm_idle (s : State) : (rearm s).idle = s.idle := by
  unfold rearm; split <;> rfl

@[simp] theorem rearm_hold (s : State) : (rearm s).hold = s.hold := by
  unfold rearm; split <;> rfl

@[simp] theorem rearm_ioValid (s : State) : (rearm s).ioValid = s.ioValid := by
  unfold rearm; split <;> rfl

@[simp] theorem rearm_condL (s : State) : (rearm s).condL = s.condL := by
  unfold rearm; split <;> rfl

@[simp] theorem rearm_busy (s : State) : (rearm s).busy = s.busy := by
  unfold rearm; split <;> rfl

@[simp] theorem rearm_ilOp (s : State) : (rearm s).ilOp = s.ilOp := by
  unfold rearm; split <;> rfl

@[simp] theorem rearm_ilAddr (s : State) : (rearm s).ilAddr = s.ilAddr := by
  unfold rearm; split <;> rfl

@[simp] theorem rearm_sin (s : State) : (rearm s).sin = s.sin := by
  unfold rearm; split <;> rfl

@[simp] theorem rearm_ioOut (s : State) : (rearm s).ioOut = s.ioOut := by
  unfold rearm; split <;> rfl

@[simp] theorem rearm_late (s : State) : (rearm s).late = s.late := by
  unfold rearm; split <;> rfl

@[simp] theorem rearm_digit (s : State) : (rearm s).digit = s.digit := by
  unfold rearm; split <;> rfl

@[simp] theorem rearm_extSnap (s : State) : (rearm s).extSnap = s.extSnap := by
  unfold rearm; split <;> rfl

@[simp] theorem rearm_keySnap (s : State) : (rearm s).keySnap = s.keySnap := by
  unfold rearm; split <;> rfl

@[simp] theorem rearm_resetCnt (s : State) : (rearm s).resetCnt = s.resetCnt := by
  unfold rearm; split <;> rfl

@[simp] theorem rearm_bus (s : State) : (rearm s).bus = s.bus := by
  unfold rearm; split <;> rfl

@[simp] theorem rearm_stopReq (s : State) : (rearm s).stopReq = s.stopReq := by
  unfold rearm; split <;> rfl

@[simp] theorem rearm_ended (s : State) : (rearm s).ended = s.ended := by
  unfold rearm; split <;> rfl

@[simp] theorem rearm_cfg (s : State) : (rearm s).cfg = s.cfg := by
  unfold rearm; split <;> rfl

@[simp] theorem rearm_env (s : State) : (rearm s).env = s.env := by
  unfold rearm; split <;> rfl

@[simp] theorem clearCondIf_regA (b : Bool) (s : State) : (clearCondIf b s).regA = s.regA := by
  cases b <;> rfl

@[simp] theorem clearCondIf_regB (b : Bool) (s : State) : (clearCondIf b s).regB = s.regB := by
  cases b <;> rfl

@[simp] theorem clearCondIf_regC (b : Bool) (s : State) : (clearCondIf b s).regC = s.regC := by
  cases b <;> rfl

@[simp] theorem clearCondIf_regD (b : Bool) (s : State) : (clearCondIf b s).regD = s.regD := by
  cases b <;> rfl

@[simp] theorem clearCondIf_regE (b : Bool) (s : State) : (clearCondIf b s).regE = s.regE := by
  cases b <;> rfl

@[simp] theorem clearCondIf_fA (b : Bool) (s : State) : (clearCondIf b s).fA = s.fA := by
  cases b <;> rfl

@[simp] theorem clearCondIf_fB (b : Bool) (s : State) : (clearCondIf b s).fB = s.fB := by
  cases b <;> rfl

@[simp] theorem clearCondIf_kr (b : Bool) (s : State) : (clearCondIf b s).kr = s.kr := by
  cases b <;> rfl

@[simp] theorem clearCondIf_sr (b : Bool) (s : State) : (clearCondIf b s).sr = s.sr := by
  cases b <;> rfl

@[simp] theorem clearCondIf_r5 (b : Bool) (s : State) : (clearCondIf b s).r5 = s.r5 := by
  cases b <;> rfl

@[simp] theorem clearCondIf_idle (b : Bool) (s : State) : (clearCondIf b s).idle = s.idle := by
  cases b <;> rfl

@[simp] theorem clearCondIf_hold (b : Bool) (s : State) : (clearCondIf b s).hold = s.hold := by
  cases b <;> rfl

@[simp] theorem clearCondIf_jump (b : Bool) (s : State) : (clearCondIf b s).jump = s.jump := by
  cases b <;> rfl

@[simp] theorem clearCondIf_ioValid (b : Bool) (s : State) : (clearCondIf b s).ioValid = s.ioValid := by
  cases b <;> rfl

@[simp] theorem clearCondIf_condL (b : Bool) (s : State) : (clearCondIf b s).condL = s.condL := by
  cases b <;> rfl

@[simp] theorem clearCondIf_busy (b : Bool) (s : State) : (clearCondIf b s).busy = s.busy := by
  cases b <;> rfl

@[simp] theorem clearCondIf_ilOp (b : Bool) (s : State) : (clearCondIf b s).ilOp = s.ilOp := by
  cases b <;> rfl

@[simp] theorem clearCondIf_ilAddr (b : Bool) (s : State) : (clearCondIf b s).ilAddr = s.ilAddr := by
  cases b <;> rfl

@[simp] theorem clearCondIf_sin (b : Bool) (s : State) : (clearCondIf b s).sin = s.sin := by
  cases b <;> rfl

@[simp] theorem clearCondIf_ioOut (b : Bool) (s : State) : (clearCondIf b s).ioOut = s.ioOut := by
  cases b <;> rfl

@[simp] theorem clearCondIf_late (b : Bool) (s : State) : (clearCondIf b s).late = s.late := by
  cases b <;> rfl

@[simp] theorem clearCondIf_digit (b : Bool) (s : State) : (clearCondIf b s).digit = s.digit := by
  cases b <;> rfl

@[simp] theorem clearCondIf_extSnap (b : Bool) (s : State) : (clearCondIf b s).extSnap = s.extSnap := by
  cases b <;> rfl

@[simp] theorem clearCondIf_keySnap (b : Bool) (s : State) : (clearCondIf b s).keySnap = s.keySnap := by
  cases b <;> rfl

@[simp] theorem clearCondIf_resetCnt (b : Bool) (s : State) : (clearCondIf b s).resetCnt = s.resetCnt := by
  cases b <;> rfl

@[simp] theorem clearCondIf_bus (b : Bool) (s : State) : (clearCondIf b s).bus = s.bus := by
  cases b <;> rfl

@[simp] theorem clearCondIf_stopReq (b : Bool) (s : State) : (clearCondIf b s).stopReq = s.stopReq := by
  cases b <;> rfl

@[simp] theorem clearCondIf_ended (b : Bool) (s : State) : (clearCondIf b s).ended = s.ended := by
  cases b <;> rfl

@[simp] theorem clearCondIf_cfg (b : Bool) (s : State) : (clearCondIf b s).cfg = s.cfg := by
  cases b <;> rfl

@[simp] theorem clearCondIf_env (b : Bool) (s : State) : (clearCondIf b s).env = s.env := by
  cases b <;> rfl

@[simp] theorem exchange_fA (p q : Reg) (m : MaskDesc) (s : State) : (exchange p q m s).fA = s.fA := by
  simp [exchange]

@[simp] theorem exchange_fB (p q : Reg) (m : MaskDesc) (s : State) : (exchange p q m s).fB = s.fB := by
  simp [exchange]

@[simp] theorem exchange_kr (p q : Reg) (m : MaskDesc) (s : State) : (exchange p q m s).kr = s.kr := by
  simp [exchange]

@[simp] theorem exchange_sr (p q : Reg) (m : MaskDesc) (s : State) : (exchange p q m s).sr = s.sr := by
  simp [exchange]

@[simp] theorem exchange_r5 (p q : Reg) (m : MaskDesc) (s : State) : (exchange p q m s).r5 = s.r5 := by
  simp [exchange]

@[simp] theorem exchange_idle (p q : Reg) (m : MaskDesc) (s : State) : (exchange p q m s).idle = s.idle := by
  simp [exchange]

@[simp] theorem exchange_hold (p q : Reg) (m : MaskDesc) (s : State) : (exchange p q m s).hold = s.hold := by
  simp [exchange]

@[simp] theorem exchange_jump (p q : Reg) (m : MaskDesc) (s : State) : (exchange p q m s).jump = s.jump := by
  simp [exchange]

@[simp] theorem exchange_ioValid (p q : Reg) (m : MaskDesc) (s : State) : (exchange p q m s).ioValid = s.ioValid := by
  simp [exchange]

@[simp] theorem exchange_cond (p q : Reg) (m : MaskDesc) (s : State) : (exchange p q m s).cond = s.cond := by
  simp [exchange]

@[simp] theorem exchange_condL (p q : Reg) (m : MaskDesc) (s : State) : (exchange p q m s).condL = s.condL := by
  simp [exchange]

@[simp] theorem exchange_busy (p q : Reg) (m : MaskDesc) (s : State) : (exchange p q m s).busy = s.busy := by
  simp [exchange]

@[simp] theorem exchange_ilOp (p q : Reg) (m : MaskDesc) (s : State) : (exchange p q m s).ilOp = s.ilOp := by
  simp [exchange]

@[simp] theorem exchange_ilAddr (p q : Reg) (m : MaskDesc) (s : State) : (exchange p q m s).ilAddr = s.ilAddr := by
  simp [exchange]

@[simp] theorem exchange_sin (p q : Reg) (m : MaskDesc) (s : State) : (exchange p q m s).sin = s.sin := by
  simp [exchange]

@[simp] theorem exchange_ioOut (p q : Reg) (m : MaskDesc) (s : State) : (exchange p q m s).ioOut = s.ioOut := by
  simp [exchange]

@[simp] theorem exchange_late (p q : Reg) (m : MaskDesc) (s : State) : (exchange p q m s).late = s.late := by
  simp [exchange]

@[simp] theorem exchange_digit (p q : Reg) (m : MaskDesc) (s : State) : (exchange p q m s).digit = s.digit := by
  simp [exchange]

@[simp] theorem exchange_extSnap (p q : Reg) (m : MaskDesc) (s : State) : (exchange p q m s).extSnap = s.extSnap := by
  simp [exchange]

@[simp] theorem exchange_keySnap (p q : Reg) (m : MaskDesc) (s : State) : (exchange p q m s).keySnap = s.keySnap := by
  simp [exchange]

@[simp] theorem exchange_resetCnt (p q : Reg) (m : MaskDesc) (s : State) : (exchange p q m s).resetCnt = s.resetCnt := by
  simp [exchange]

@[simp] theorem exchange_bus (p q : Reg) (m : MaskDesc) (s : State) : (exchange p q m s).bus = s.bus := by
  simp [exchange]

@[simp] theorem exchange_stopReq (p q : Reg) (m : MaskDesc) (s : State) : (exchange p q m s).stopReq = s.stopReq := by
  simp [exchange]

@[simp] theorem exchange_ended (p q : Reg) (m : MaskDesc) (s : State) : (exchange p q m s).ended = s.ended := by
  simp [exchange]

@[simp] theorem exchange_cfg (p q : Reg) (m : MaskDesc) (s : State) : (exchange p q m s).cfg = s.cfg := by
  simp [exchange]

@[simp] theorem exchange_env (p q : Reg) (m : MaskDesc) (s : State) : (exchange p q m s).env = s.env := by
  simp [exchange]

@[simp] theorem entered_regA (s : State) : (entered s).regA = s.regA := by
  rfl

@[simp] theorem entered_regB (s : State) : (entered s).regB = s.regB := by
  rfl

@[simp] theorem entered_regC (s : State) : (entered s).regC = s.regC := by
  rfl

@[simp] theorem entered_regD (s : State) : (entered s).regD = s.regD := by
  rfl

@[simp] theorem entered_regE (s : State) : (entered s).regE = s.regE := by
  rfl

@[simp] theorem entered_fA (s : State) : (entered s).fA = s.fA := by
  rfl

@[simp] theorem entered_fB (s : State) : (entered s).fB = s.fB := by
  rfl

@[simp] theorem entered_kr (s : State) : (entered s).kr = s.kr := by
  rfl

@[simp] theorem entered_sr (s : State) : (entered s).sr = s.sr := by
  rfl

@[simp] theorem entered_r5 (s : State) : (entered s).r5 = s.r5 := by
  rfl

@[simp] theorem entered_idle (s : State) : (entered s).idle = s.idle := by
  rfl

@[simp] theorem entered_hold (s : State) : (entered s).hold = s.hold := by
  rfl

@[simp] theorem entered_ioValid (s : State) : (entered s).ioValid = s.ioValid := by
  rfl

@[simp] theorem entered_condL (s : State) : (entered s).condL = s.condL := by
  rfl

@[simp] theorem entered_busy (s : State) : (entered s).busy = s.busy := by
  rfl

@[simp] theorem entered_ilOp (s : State) : (entered s).ilOp = s.ilOp := by
  rfl

@[simp] theorem entered_ilAddr (s : State) : (entered s).ilAddr = s.ilAddr := by
  rfl

@[simp] theorem entered_sin (s : State) : (entered s).sin = s.sin := by
  rfl

@[simp] theorem entered_ioOut (s : State) : (entered s).ioOut = s.ioOut := by
  rfl

@[simp] theorem entered_late (s : State) : (entered s).late = s.late := by
  rfl

@[simp] theorem entered_digit (s : State) : (entered s).digit = s.digit := by
  rfl

@[simp] theorem entered_extSnap (s : State) : (entered s).extSnap = s.extSnap := by
  rfl

@[simp] theorem entered_keySnap (s : State) : (entered s).keySnap = s.keySnap := by
  rfl

@[simp] theorem entered_resetCnt (s : State) : (entered s).resetCnt = s.resetCnt := by
  rfl

@[simp] theorem entered_bus (s : State) : (entered s).bus = s.bus := by
  rfl

@[simp] theorem entered_stopReq (s : State) : (entered s).stopReq = s.stopReq := by
  rfl

@[simp] theorem entered_ended (s : State) : (entered s).ended = s.ended := by
  rfl

@[simp] theorem entered_cfg (s : State) : (entered s).cfg = s.cfg := by
  rfl

@[simp] theorem entered_env (s : State) : (entered s).env = s.env := by
  rfl

@[simp] theorem publishIdle_regA (s : State) : (publishIdle s).regA = s.regA := by
  unfold publishIdle; split <;> rfl

@[simp] theorem publishIdle_regB (s : State) : (publishIdle s).regB = s.regB := by
  unfold publishIdle; split <;> rfl

@[simp] theorem publishIdle_regC (s : State) : (publishIdle s).regC = s.regC := by
  unfold publishIdle; split <;> rfl

@[simp] theorem publishIdle_regD (s : State) : (publishIdle s).regD = s.regD := by
  unfold publishIdle; split <;> rfl

@[simp] theorem publishIdle_regE (s : State) : (publishIdle s).regE = s.regE := by
  unfold publishIdle; split <;> rfl

@[simp] theorem publishIdle_fA (s : State) : (publishIdle s).fA = s.fA := by
  unfold publishIdle; split <;> rfl

@[simp] theorem publishIdle_fB (s : State) : (publishIdle s).fB = s.fB := by
  unfold publishIdle; split <;> rfl

@[simp] theorem publishIdle_kr (s : State) : (publishIdle s).kr = s.kr := by
  unfold publishIdle; split <;> rfl

@[simp] theorem publishIdle_sr (s : State) : (publishIdle s).sr = s.sr := by
  unfold publishIdle; split <;> rfl

@[simp] theorem publishIdle_r5 (s : State) : (publishIdle s).r5 = s.r5 := by
  unfold publishIdle; split <;> rfl

@[simp] theorem publishIdle_idle (s : State) : (publishIdle s).idle = s.idle := by
  unfold publishIdle; split <;> rfl

@[simp] theorem publishIdle_hold (s : State) : (publishIdle s).hold = s.hold := by
  unfold publishIdle; split <;> rfl

@[simp] theorem publishIdle_jump (s : State) : (publishIdle s).jump = s.jump := by
  unfold publishIdle; split <;> rfl

@[simp] theorem publishIdle_ioValid (s : State) : (publishIdle s).ioValid = s.ioValid := by
  unfold publishIdle; split <;> rfl

@[simp] theorem publishIdle_cond (s : State) : (publishIdle s).cond = s.cond := by
  unfold publishIdle; split <;> rfl

@[simp] theorem publishIdle_condL (s : State) : (publishIdle s).condL = s.condL := by
  unfold publishIdle; split <;> rfl

@[simp] theorem publishIdle_busy (s : State) : (publishIdle s).busy = s.busy := by
  unfold publishIdle; split <;> rfl

@[simp] theorem publishIdle_ilOp (s : State) : (publishIdle s).ilOp = s.ilOp := by
  unfold publishIdle; split <;> rfl

@[simp] theorem publishIdle_ilAddr (s : State) : (publishIdle s).ilAddr = s.ilAddr := by
  unfold publishIdle; split <;> rfl

@[simp] theorem publishIdle_sin (s : State) : (publishIdle s).sin = s.sin := by
  unfold publishIdle; split <;> rfl

@[simp] theorem publishIdle_ioOut (s : State) : (publishIdle s).ioOut = s.ioOut := by
  unfold publishIdle; split <;> rfl

@[simp] theorem publishIdle_late (s : State) : (publishIdle s).late = s.late := by
  unfold publishIdle; split <;> rfl

@[simp] theorem publishIdle_digit (s : State) : (publishIdle s).digit = s.digit := by
  unfold publishIdle; split <;> rfl

@[simp] theorem publishIdle_extSnap (s : State) : (publishIdle s).extSnap = s.extSnap := by
  unfold publishIdle; split <;> rfl

@[simp] theorem publishIdle_keySnap (s : State) : (publishIdle s).keySnap = s.keySnap := by
  unfold publishIdle; split <;> rfl

@[simp] theorem publishIdle_resetCnt (s : State) : (publishIdle s).resetCnt = s.resetCnt := by
  unfold publishIdle; split <;> rfl

@[simp] theorem publishIdle_stopReq (s : State) : (publishIdle s).stopReq = s.stopReq := by
  unfold publishIdle; split <;> rfl

@[simp] theorem publishIdle_ended (s : State) : (publishIdle s).ended = s.ended := by
  unfold publishIdle; split <;> rfl

@[simp] theorem publishIdle_cfg (s : State) : (publishIdle s).cfg = s.cfg := by
  unfold publishIdle; split <;> rfl

@[simp] theorem publishIdle_env (s : State) : (publishIdle s).env = s.env := by
  unfold publishIdle; split <;> rfl

@[simp] theorem publishIo_regA (s : State) : (publishIo s).regA = s.regA := by
  unfold publishIo; split <;> rfl

@[simp] theorem publishIo_regB (s : State) : (publishIo s).regB = s.regB := by
  unfold publishIo; split <;> rfl

@[simp] theorem publishIo_regC (s : State) : (publishIo s).regC = s.regC := by
  unfold publishIo; split <;> rfl

@[simp] theorem publishIo_regD (s : State) : (publishIo s).regD = s.regD := by
  unfold publishIo; split <;> rfl

@[simp] theorem publishIo_regE (s : State) : (publishIo s).regE = s.regE := by
  unfold publishIo; split <;> rfl

@[simp] theorem publishIo_fA (s : State) : (publishIo s).fA = s.fA := by
  unfold publishIo; split <;> rfl

@[simp] theorem publishIo_fB (s : State) : (publishIo s).fB = s.fB := by
  unfold publishIo; split <;> rfl

@[simp] theorem publishIo_kr (s : State) : (publishIo s).kr = s.kr := by
  unfold publishIo; split <;> rfl

@[simp] theorem publishIo_sr (s : State) : (publishIo s).sr = s.sr := by
  unfold publishIo; split <;> rfl

@[simp] theorem publishIo_r5 (s : State) : (publishIo s).r5 = s.r5 := by
  unfold publishIo; split <;> rfl

@[simp] theorem publishIo_idle (s : State) : (publishIo s).idle = s.idle := by
  unfold publishIo; split <;> rfl

@[simp] theorem publishIo_hold (s : State) : (publishIo s).hold = s.hold := by
  unfold publishIo; split <;> rfl

@[simp] theorem publishIo_jump (s : State) : (publishIo s).jump = s.jump := by
  unfold publishIo; split <;> rfl

@[simp] theorem publishIo_cond (s : State) : (publishIo s).cond = s.cond := by
  unfold publishIo; split <;> rfl

@[simp] theorem publishIo_condL (s : State) : (publishIo s).condL = s.condL := by
  unfold publishIo; split <;> rfl

@[simp] theorem publishIo_busy (s : State) : (publishIo s).busy = s.busy := by
  unfold publishIo; split <;> rfl

@[simp] theorem publishIo_ilOp (s : State) : (publishIo s).ilOp = s.ilOp := by
  unfold publishIo; split <;> rfl

@[simp] theorem publishIo_ilAddr (s : State) : (publishIo s).ilAddr = s.ilAddr := by
  unfold publishIo; split <;> rfl

@[simp] theorem publishIo_sin (s : State) : (publishIo s).sin = s.sin := by
  unfold publishIo; split <;> rfl

@[simp] theorem publishIo_ioOut (s : State) : (publishIo s).ioOut = s.ioOut := by
  unfold publishIo; split <;> rfl

@[simp] theorem publishIo_late (s : State) : (publishIo s).late = s.late := by
  unfold publishIo; split <;> rfl

@[simp] theorem publishIo_digit (s : State) : (publishIo s).digit = s.digit := by
  unfold publishIo; split <;> rfl

@[simp] theorem publishIo_extSnap (s : State) : (publishIo s).extSnap = s.extSnap := by
  unfold publishIo; split <;> rfl

@[simp] theorem publishIo_keySnap (s : State) : (publishIo s).keySnap = s.keySnap := by
  unfold publishIo; split <;> rfl

@[simp] theorem publishIo_resetCnt (s : State) : (publishIo s).resetCnt = s.resetCnt := by
  unfold publishIo; split <;> rfl

@[simp] theorem publishIo_stopReq (s : State) : (publishIo s).stopReq = s.stopReq := by
  unfold publishIo; split <;> rfl

@[simp] theorem publishIo_ended (s : State) : (publishIo s).ended = s.ended := by
  unfold publishIo; split <;> rfl

@[simp] theorem publishIo_cfg (s : State) : (publishIo s).cfg = s.cfg := by
  unfold publishIo; split <;> rfl

@[simp] theorem publishIo_env (s : State) : (publishIo s).env = s.env := by
  unfold publishIo; split <;> rfl

@[simp] theorem publishKr_regA (s : State) : (publishKr s).regA = s.regA := by
  unfold publishKr; split <;> rfl

@[simp] theorem publishKr_regB (s : State) : (publishKr s).regB = s.regB := by
  unfold publishKr; split <;> rfl

@[simp] theorem publishKr_regC (s : State) : (publishKr s).regC = s.regC := by
  unfold publishKr; split <;> rfl

@[simp] theorem publishKr_regD (s : State) : (publishKr s).regD = s.regD := by
  unfold publishKr; split <;> rfl

@[simp] theorem publishKr_regE (s : State) : (publishKr s).regE = s.regE := by
  unfold publishKr; split <;> rfl

@[simp] theorem publishKr_fA (s : State) : (publishKr s).fA = s.fA := by
  unfold publishKr; split <;> rfl

@[simp] theorem publishKr_fB (s : State) : (publishKr s).fB = s.fB := by
  unfold publishKr; split <;> rfl

@[simp] theorem publishKr_kr (s : State) : (publishKr s).kr = s.kr := by
  unfold publishKr; split <;> rfl

@[simp] theorem publishKr_sr (s : State) : (publishKr s).sr = s.sr := by
  unfold publishKr; split <;> rfl

@[simp] theorem publishKr_r5 (s : State) : (publishKr s).r5 = s.r5 := by
  unfold publishKr; split <;> rfl

@[simp] theorem publishKr_idle (s : State) : (publishKr s).idle = s.idle := by
  unfold publishKr; split <;> rfl

@[simp] theorem publishKr_hold (s : State) : (publishKr s).hold = s.hold := by
  unfold publishKr; split <;> rfl

@[simp] theorem publishKr_jump (s : State) : (publishKr s).jump = s.jump := by
  unfold publishKr; split <;> rfl

@[simp] theorem publishKr_ioValid (s : State) : (publishKr s).ioValid = s.ioValid := by
  unfold publishKr; split <;> rfl

@[simp] theorem publishKr_cond (s : State) : (publishKr s).cond = s.cond := by
  unfold publishKr; split <;> rfl

@[simp] theorem publishKr_condL (s : State) : (publishKr s).condL = s.condL := by
  unfold publishKr; split <;> rfl

@[simp] theorem publishKr_busy (s : State) : (publishKr s).busy = s.busy := by
  unfold publishKr; split <;> rfl

@[simp] theorem publishKr_ilOp (s : State) : (publishKr s).ilOp = s.ilOp := by
  unfold publishKr; split <;> rfl

@[simp] theorem publishKr_ilAddr (s : State) : (publishKr s).ilAddr = s.ilAddr := by
  unfold publishKr; split <;> rfl

@[simp] theorem publishKr_sin (s : State) : (publishKr s).sin = s.sin := by
  unfold publishKr; split <;> rfl

@[simp] theorem publishKr_ioOut (s : State) : (publishKr s).ioOut = s.ioOut := by
  unfold publishKr; split <;> rfl

@[simp] theorem publishKr_late (s : State) : (publishKr s).late = s.late := by
  unfold publishKr; split <;> rfl

@[simp] theorem publishKr_digit (s : State) : (publishKr s).digit = s.digit := by
  unfold publishKr; split <;> rfl

@[simp] theorem publishKr_extSnap (s : State) : (publishKr s).extSnap = s.extSnap := by
  unfold publishKr; split <;> rfl

@[simp] theorem publishKr_keySnap (s : State) : (publishKr s).keySnap = s.keySnap := by
  unfold publishKr; split <;> rfl

@[simp] theorem publishKr_resetCnt (s : State) : (publishKr s).resetCnt = s.resetCnt := by
  unfold publishKr; split <;> rfl

@[simp] theorem publishKr_stopReq (s : State) : (publishKr s).stopReq = s.stopReq := by
  unfold publishKr; split <;> rfl

@[simp] theorem publishKr_ended (s : State) : (publishKr s).ended = s.ended := by
  unfold publishKr; split <;> rfl

@[simp] theorem publishKr_cfg (s : State) : (publishKr s).cfg = s.cfg := by
  unfold publishKr; split <;> rfl

@[simp] theorem publishKr_env (s : State) : (publishKr s).env = s.env := by
  unfold publishKr; split <;> rfl

@[simp] theorem chipWrites_regA (ws : List BusWrite) (s : State) : (chipWrites ws s).regA = s.regA := by
  unfold chipWrites; split <;> rfl

@[simp] theorem chipWrites_regB (ws : List BusWrite) (s : State) : (chipWrites ws s).regB = s.regB := by
  unfold chipWrites; split <;> rfl

@[simp] theorem chipWrites_regC (ws : List BusWrite) (s : State) : (chipWrites ws s).regC = s.regC := by
  unfold chipWrites; split <;> rfl

@[simp] theorem chipWrites_regD (ws : List BusWrite) (s : State) : (chipWrites ws s).regD = s.regD := by
  unfold chipWrites; split <;> rfl

@[simp] theorem chipWrites_regE (ws : List BusWrite) (s : State) : (chipWrites ws s).regE = s.regE := by
  unfold chipWrites; split <;> rfl

@[simp] theorem chipWrites_fA (ws : List BusWrite) (s : State) : (chipWrites ws s).fA = s.fA := by
  unfold chipWrites; split <;> rfl

@[simp] theorem chipWrites_fB (ws : List BusWrite) (s : State) : (chipWrites ws s).fB = s.fB := by
  unfold chipWrites; split <;> rfl

@[simp] theorem chipWrites_kr (ws : List BusWrite) (s : State) : (chipWrites ws s).kr = s.kr := by
  unfold chipWrites; split <;> rfl

@[simp] theorem chipWrites_sr (ws : List BusWrite) (s : State) : (chipWrites ws s).sr = s.sr := by
  unfold chipWrites; split <;> rfl

@[simp] theorem chipWrites_r5 (ws : List BusWrite) (s : State) : (chipWrites ws s).r5 = s.r5 := by
  unfold chipWrites; split <;> rfl

@[simp] theorem chipWrites_idle (ws : List BusWrite) (s : State) : (chipWrites ws s).idle = s.idle := by
  unfold chipWrites; split <;> rfl

@[simp] theorem chipWrites_hold (ws : List BusWrite) (s : State) : (chipWrites ws s).hold = s.hold := by
  unfold chipWrites; split <;> rfl

@[simp] theorem chipWrites_jump (ws : List BusWrite) (s : State) : (chipWrites ws s).jump = s.jump := by
  unfold chipWrites; split <;> rfl

@[simp] theorem chipWrites_ioValid (ws : List BusWrite) (s : State) : (chipWrites ws s).ioValid = s.ioValid := by
  unfold chipWrites; split <;> rfl

@[simp] theorem chipWrites_cond (ws : List BusWrite) (s : State) : (chipWrites ws s).cond = s.cond := by
  unfold chipWrites; split <;> rfl

@[simp] theorem chipWrites_condL (ws : List BusWrite) (s : State) : (chipWrites ws s).condL = s.condL := by
  unfold chipWrites; split <;> rfl

@[simp] theorem chipWrites_busy (ws : List BusWrite) (s : State) : (chipWrites ws s).busy = s.busy := by
  unfold chipWrites; split <;> rfl

@[simp] theorem chipWrites_ilOp (ws : List BusWrite) (s : State) : (chipWrites ws s).ilOp = s.ilOp := by
  unfold chipWrites; split <;> rfl

@[simp] theorem chipWrites_ilAddr (ws : List BusWrite) (s : State) : (chipWrites ws s).ilAddr = s.ilAddr := by
  unfold chipWrites; split <;> rfl

@[simp] theorem chipWrites_sin (ws : List BusWrite) (s : State) : (chipWrites ws s).sin = s.sin := by
  unfold chipWrites; split <;> rfl

@[simp] theorem chipWrites_ioOut (ws : List BusWrite) (s : State) : (chipWrites ws s).ioOut = s.ioOut := by
  unfold chipWrites; split <;> rfl

@[simp] theorem chipWrites_late (ws : List BusWrite) (s : State) : (chipWrites ws s).late = s.late := by
  unfold chipWrites; split <;> rfl

@[simp] theorem chipWrites_digit (ws : List BusWrite) (s : State) : (chipWrites ws s).digit = s.digit := by
  unfold chipWrites; split <;> rfl

@[simp] theorem chipWrites_extSnap (ws : List BusWrite) (s : State) : (chipWrites ws s).extSnap = s.extSnap := by
  unfold chipWrites; split <;> rfl

@[simp] theorem chipWrites_keySnap (ws : List BusWrite) (s : State) : (chipWrites ws s).keySnap = s.keySnap := by
  unfold chipWrites; split <;> rfl

@[simp] theorem chipWrites_resetCnt (ws : List BusWrite) (s : State) : (chipWrites ws s).resetCnt = s.resetCnt := by
  unfold chipWrites; split <;> rfl

@[simp] theorem chipWrites_stopReq (ws : List BusWrite) (s : State) : (chipWrites ws s).stopReq = s.stopReq := by
  unfold chipWrites; split <;> rfl

@[simp] theorem chipWrites_ended (ws : List BusWrite) (s : State) : (chipWrites ws s).ended = s.ended := by
  unfold chipWrites; split <;> rfl

@[simp] theorem chipWrites_cfg (ws : List BusWrite) (s : State) : (chipWrites ws s).cfg = s.cfg := by
  unfold chipWrites; split <;> rfl

@[simp] theorem chipWrites_env (ws : List BusWrite) (s : State) : (chipWrites ws s).env = s.env := by
  unfold chipWrites; split <;> rfl

@[simp] theorem beforeCore_regA (s : State) : (beforeCore s).regA = s.regA := by
  simp [beforeCore]

@[simp] theorem beforeCore_regB (s : State) : (beforeCore s).regB = s.regB := by
  simp [beforeCore]

@[simp] theorem beforeCore_regC (s : State) : (beforeCore s).regC = s.regC := by
  simp [beforeCore]

@[simp] theorem beforeCore_regD (s : State) : (beforeCore s).regD = s.regD := by
  simp [beforeCore]

@[simp] theorem beforeCore_regE (s : State) : (beforeCore s).regE = s.regE := by
  simp [beforeCore]

@[simp] theorem beforeCore_fA (s : State) : (beforeCore s).fA = s.fA := by
  simp [beforeCore]

@[simp] theorem beforeCore_fB (s : State) : (beforeCore s).fB = s.fB := by
  simp [beforeCore]

@[simp] theorem beforeCore_kr (s : State) : (beforeCore s).kr = s.kr := by
  simp [beforeCore]

@[simp] theorem beforeCore_sr (s : State) : (beforeCore s).sr = s.sr := by
  simp [beforeCore]

@[simp] theorem beforeCore_r5 (s : State) : (beforeCore s).r5 = s.r5 := by
  simp [beforeCore]

@[simp] theorem beforeCore_idle (s : State) : (beforeCore s).idle = s.idle := by
  simp [beforeCore]

@[simp] theorem beforeCore_hold (s : State) : (beforeCore s).hold = s.hold := by
  simp [beforeCore]

@[simp] theorem beforeCore_jump (s : State) : (beforeCore s).jump = s.jump := by
  simp [beforeCore]

@[simp] theorem beforeCore_ioValid (s : State) : (beforeCore s).ioValid = s.ioValid := by
  simp [beforeCore]

@[simp] theorem beforeCore_cond (s : State) : (beforeCore s).cond = s.cond := by
  simp [beforeCore]

@[simp] theorem beforeCore_condL (s : State) : (beforeCore s).condL = s.condL := by
  simp [beforeCore]

@[simp] theorem beforeCore_ilOp (s : State) : (beforeCore s).ilOp = s.ilOp := by
  simp [beforeCore]

@[simp] theorem beforeCore_ilAddr (s : State) : (beforeCore s).ilAddr = s.ilAddr := by
  simp [beforeCore]

@[simp] theorem beforeCore_sin (s : State) : (beforeCore s).sin = s.sin := by
  simp [beforeCore]

@[simp] theorem beforeCore_ioOut (s : State) : (beforeCore s).ioOut = s.ioOut := by
  simp [beforeCore]

@[simp] theorem beforeCore_late (s : State) : (beforeCore s).late = s.late := by
  simp [beforeCore]

@[simp] theorem beforeCore_digit (s : State) : (beforeCore s).digit = s.digit := by
  simp [beforeCore]

@[simp] theorem beforeCore_extSnap (s : State) : (beforeCore s).extSnap = s.extSnap := by
  simp [beforeCore]

@[simp] theorem beforeCore_keySnap (s : State) : (beforeCore s).keySnap = s.keySnap := by
  simp [beforeCore]

@[simp] theorem beforeCore_resetCnt (s : State) : (beforeCore s).resetCnt = s.resetCnt := by
  simp [beforeCore]

@[simp] theorem beforeCore_ended (s : State) : (beforeCore s).ended = s.ended := by
  simp [beforeCore]

@[simp] theorem beforeCore_cfg (s : State) : (beforeCore s).cfg = s.cfg := by
  simp [beforeCore]

@[simp] theorem advance_regA (s : State) : (advance s).regA = s.regA := by
  unfold advance; split <;> [rfl; split <;> [rfl; split <;> rfl]]

@[simp] theorem advance_regB (s : State) : (advance s).regB = s.regB := by
  unfold advance; split <;> [rfl; split <;> [rfl; split <;> rfl]]

@[simp] theorem advance_regC (s : State) : (advance s).regC = s.regC := by
  unfold advance; split <;> [rfl; split <;> [rfl; split <;> rfl]]

@[simp] theorem advance_regD (s : State) : (advance s).regD = s.regD := by
  unfold advance; split <;> [rfl; split <;> [rfl; split <;> rfl]]

@[simp] theorem advance_regE (s : State) : (advance s).regE = s.regE := by
  unfold advance; split <;> [rfl; split <;> [rfl; split <;> rfl]]

@[simp] theorem advance_fA (s : State) : (advance s).fA = s.fA := by
  unfold advance; split <;> [rfl; split <;> [rfl; split <;> rfl]]

@[simp] theorem advance_fB (s : State) : (advance s).fB = s.fB := by
  unfold advance; split <;> [rfl; split <;> [rfl; split <;> rfl]]

@[simp] theorem advance_kr (s : State) : (advance s).kr = s.kr := by
  unfold advance; split <;> [rfl; split <;> [rfl; split <;> rfl]]

@[simp] theorem advance_sr (s : State) : (advance s).sr = s.sr := by
  unfold advance; split <;> [rfl; split <;> [rfl; split <;> rfl]]

@[simp] theorem advance_r5 (s : State) : (advance s).r5 = s.r5 := by
  unfold advance; split <;> [rfl; split <;> [rfl; split <;> rfl]]

@[simp] theorem advance_idle (s : State) : (advance s).idle = s.idle := by
  unfold advance; split <;> [rfl; split <;> [rfl; split <;> rfl]]

@[simp] theorem advance_hold (s : State) : (advance s).hold = s.hold := by
  unfold advance; split <;> [rfl; split <;> [rfl; split <;> rfl]]

@[simp] theorem advance_jump (s : State) : (advance s).jump = s.jump := by
  unfold advance; split <;> [rfl; split <;> [rfl; split <;> rfl]]

@[simp] theorem advance_ioValid (s : State) : (advance s).ioValid = s.ioValid := by
  unfold advance; split <;> [rfl; split <;> [rfl; split <;> rfl]]

@[simp] theorem advance_cond (s : State) : (advance s).cond = s.cond := by
  unfold advance; split <;> [rfl; split <;> [rfl; split <;> rfl]]

@[simp] theorem advance_condL (s : State) : (advance s).condL = s.condL := by
  unfold advance; split <;> [rfl; split <;> [rfl; split <;> rfl]]

@[simp] theorem advance_busy (s : State) : (advance s).busy = s.busy := by
  unfold advance; split <;> [rfl; split <;> [rfl; split <;> rfl]]

@[simp] theorem advance_ilOp (s : State) : (advance s).ilOp = s.ilOp := by
  unfold advance; split <;> [rfl; split <;> [rfl; split <;> rfl]]

@[simp] theorem advance_ilAddr (s : State) : (advance s).ilAddr = s.ilAddr := by
  unfold advance; split <;> [rfl; split <;> [rfl; split <;> rfl]]

@[simp] theorem advance_sin (s : State) : (advance s).sin = s.sin := by
  unfold advance; split <;> [rfl; split <;> [rfl; split <;> rfl]]

@[simp] theorem advance_ioOut (s : State) : (advance s).ioOut = s.ioOut := by
  unfold advance; split <;> [rfl; split <;> [rfl; split <;> rfl]]

@[simp] theorem advance_late (s : State) : (advance s).late = s.late := by
  unfold advance; split <;> [rfl; split <;> [rfl; split <;> rfl]]

@[simp] theorem advance_digit (s : State) : (advance s).digit = s.digit := by
  unfold advance; split <;> [rfl; split <;> [rfl; split <;> rfl]]

@[simp] theorem advance_extSnap (s : State) : (advance s).extSnap = s.extSnap := by
  unfold advance; split <;> [rfl; split <;> [rfl; split <;> rfl]]

@[simp] theorem advance_keySnap (s : State) : (advance s).keySnap = s.keySnap := by
  unfold advance; split <;> [rfl; split <;> [rfl; split <;> rfl]]

@[simp] theorem advance_resetCnt (s : State) : (advance s).resetCnt = s.resetCnt := by
  unfold advance; split <;> [rfl; split <;> [rfl; split <;> rfl]]

@[simp] theorem advance_stopReq (s : State) : (advance s).stopReq = s.stopReq := by
  unfold advance; split <;> [rfl; split <;> [rfl; split <;> rfl]]

@[simp] theorem advance_cfg (s : State) : (advance s).cfg = s.cfg := by
  unfold advance; split <;> [rfl; split <;> [rfl; split <;> rfl]]

@[simp] theorem advance_env (s : State) : (advance s).env = s.env := by
  unfold advance; split <;> [rfl; split <;> [rfl; split <;> rfl]]

@[simp] theorem s1Write_regA (s : State) : (s1Write s).regA = s.regA := by
  unfold s1Write; split <;> rfl

@[simp] theorem s1Write_regB (s : State) : (s1Write s).regB = s.regB := by
  unfold s1Write; split <;> rfl

@[simp] theorem s1Write_regC (s : State) : (s1Write s).regC = s.regC := by
  unfold s1Write; split <;> rfl

@[simp] theorem s1Write_regD (s : State) : (s1Write s).regD = s.regD := by
  unfold s1Write; split <;> rfl

@[simp] theorem s1Write_regE (s : State) : (s1Write s).regE = s.regE := by
  unfold s1Write; split <;> rfl

@[simp] theorem s1Write_fA (s : State) : (s1Write s).fA = s.fA := by
  unfold s1Write; split <;> rfl

@[simp] theorem s1Write_fB (s : State) : (s1Write s).fB = s.fB := by
  unfold s1Write; split <;> rfl

@[simp] theorem s1Write_kr (s : State) : (s1Write s).kr = s.kr := by
  unfold s1Write; split <;> rfl

@[simp] theorem s1Write_sr (s : State) : (s1Write s).sr = s.sr := by
  unfold s1Write; split <;> rfl

@[simp] theorem s1Write_r5 (s : State) : (s1Write s).r5 = s.r5 := by
  unfold s1Write; split <;> rfl

@[simp] theorem s1Write_idle (s : State) : (s1Write s).idle = s.idle := by
  unfold s1Write; split <;> rfl

@[simp] theorem s1Write_hold (s : State) : (s1Write s).hold = s.hold := by
  unfold s1Write; split <;> rfl

@[simp] theorem s1Write_jump (s : State) : (s1Write s).jump = s.jump := by
  unfold s1Write; split <;> rfl

@[simp] theorem s1Write_ioValid (s : State) : (s1Write s).ioValid = s.ioValid := by
  unfold s1Write; split <;> rfl

@[simp] theorem s1Write_cond (s : State) : (s1Write s).cond = s.cond := by
  unfold s1Write; split <;> rfl

@[simp] theorem s1Write_busy (s : State) : (s1Write s).busy = s.busy := by
  unfold s1Write; split <;> rfl

@[simp] theorem s1Write_ilOp (s : State) : (s1Write s).ilOp = s.ilOp := by
  unfold s1Write; split <;> rfl

@[simp] theorem s1Write_ilAddr (s : State) : (s1Write s).ilAddr = s.ilAddr := by
  unfold s1Write; split <;> rfl

@[simp] theorem s1Write_sin (s : State) : (s1Write s).sin = s.sin := by
  unfold s1Write; split <;> rfl

@[simp] theorem s1Write_ioOut (s : State) : (s1Write s).ioOut = s.ioOut := by
  unfold s1Write; split <;> rfl

@[simp] theorem s1Write_late (s : State) : (s1Write s).late = s.late := by
  unfold s1Write; split <;> rfl

@[simp] theorem s1Write_digit (s : State) : (s1Write s).digit = s.digit := by
  unfold s1Write; split <;> rfl

@[simp] theorem s1Write_extSnap (s : State) : (s1Write s).extSnap = s.extSnap := by
  unfold s1Write; split <;> rfl

@[simp] theorem s1Write_keySnap (s : State) : (s1Write s).keySnap = s.keySnap := by
  unfold s1Write; split <;> rfl

@[simp] theorem s1Write_resetCnt (s : State) : (s1Write s).resetCnt = s.resetCnt := by
  unfold s1Write; split <;> rfl

@[simp] theorem s1Write_stopReq (s : State) : (s1Write s).stopReq = s.stopReq := by
  unfold s1Write; split <;> rfl

@[simp] theorem s1Write_ended (s : State) : (s1Write s).ended = s.ended := by
  unfold s1Write; split <;> rfl

@[simp] theorem s1Write_cfg (s : State) : (s1Write s).cfg = s.cfg := by
  unfold s1Write; split <;> rfl

@[simp] theorem s1Write_env (s : State) : (s1Write s).env = s.env := by
  unfold s1Write; split <;> rfl

@[simp] theorem s2Write_regA (s : State) : (s2Write s).regA = s.regA := by
  unfold s2Write; split <;> rfl

@[simp] theorem s2Write_regB (s : State) : (s2Write s).regB = s.regB := by
  unfold s2Write; split <;> rfl

@[simp] theorem s2Write_regC (s : State) : (s2Write s).regC = s.regC := by
  unfold s2Write; split <;> rfl

@[simp] theorem s2Write_regD (s : State) : (s2Write s).regD = s.regD := by
  unfold s2Write; split <;> rfl

@[simp] theorem s2Write_regE (s : State) : (s2Write s).regE = s.regE := by
  unfold s2Write; split <;> rfl

@[simp] theorem s2Write_fA (s : State) : (s2Write s).fA = s.fA := by
  unfold s2Write; split <;> rfl

@[simp] theorem s2Write_fB (s : State) : (s2Write s).fB = s.fB := by
  unfold s2Write; split <;> rfl

@[simp] theorem s2Write_kr (s : State) : (s2Write s).kr = s.kr := by
  unfold s2Write; split <;> rfl

@[simp] theorem s2Write_sr (s : State) : (s2Write s).sr = s.sr := by
  unfold s2Write; split <;> rfl

@[simp] theorem s2Write_r5 (s : State) : (s2Write s).r5 = s.r5 := by
  unfold s2Write; split <;> rfl

@[simp] theorem s2Write_idle (s : State) : (s2Write s).idle = s.idle := by
  unfold s2Write; split <;> rfl

@[simp] theorem s2Write_hold (s : State) : (s2Write s).hold = s.hold := by
  unfold s2Write; split <;> rfl

@[simp] theorem s2Write_jump (s : State) : (s2Write s).jump = s.jump := by
  unfold s2Write; split <;> rfl

@[simp] theorem s2Write_ioValid (s : State) : (s2Write s).ioValid = s.ioValid := by
  unfold s2Write; split <;> rfl

@[simp] theorem s2Write_cond (s : State) : (s2Write s).cond = s.cond := by
  unfold s2Write; split <;> rfl

@[simp] theorem s2Write_condL (s : State) : (s2Write s).condL = s.condL := by
  unfold s2Write; split <;> rfl

@[simp] theorem s2Write_busy (s : State) : (s2Write s).busy = s.busy := by
  unfold s2Write; split <;> rfl

@[simp] theorem s2Write_ilOp (s : State) : (s2Write s).ilOp = s.ilOp := by
  unfold s2Write; split <;> rfl

@[simp] theorem s2Write_ilAddr (s : State) : (s2Write s).ilAddr = s.ilAddr := by
  unfold s2Write; split <;> rfl

@[simp] theorem s2Write_sin (s : State) : (s2Write s).sin = s.sin := by
  unfold s2Write; split <;> rfl

@[simp] theorem s2Write_ioOut (s : State) : (s2Write s).ioOut = s.ioOut := by
  unfold s2Write; split <;> rfl

@[simp] theorem s2Write_late (s : State) : (s2Write s).late = s.late := by
  unfold s2Write; split <;> rfl

@[simp] theorem s2Write_digit (s : State) : (s2Write s).digit = s.digit := by
  unfold s2Write; split <;> rfl

@[simp] theorem s2Write_extSnap (s : State) : (s2Write s).extSnap = s.extSnap := by
  unfold s2Write; split <;> rfl

@[simp] theorem s2Write_keySnap (s : State) : (s2Write s).keySnap = s.keySnap := by
  unfold s2Write; split <;> rfl

@[simp] theorem s2Write_resetCnt (s : State) : (s2Write s).resetCnt = s.resetCnt := by
  unfold s2Write; split <;> rfl

@[simp] theorem s2Write_stopReq (s : State) : (s2Write s).stopReq = s.stopReq := by
  unfold s2Write; split <;> rfl

@[simp] theorem s2Write_ended (s : State) : (s2Write s).ended = s.ended := by
  unfold s2Write; split <;> rfl

@[simp] theorem s2Write_cfg (s : State) : (s2Write s).cfg = s.cfg := by
  unfold s2Write; split <;> rfl

@[simp] theorem s2Write_env (s : State) : (s2Write s).env = s.env := by
  unfold s2Write; split <;> rfl

@[simp] theorem s2Read_regA (s : State) : (s2Read s).regA = s.regA := by
  unfold s2Read; split <;> rfl

@[simp] theorem s2Read_regB (s : State) : (s2Read s).regB = s.regB := by
  unfold s2Read; split <;> rfl

@[simp] theorem s2Read_regC (s : State) : (s2Read s).regC = s.regC := by
  unfold s2Read; split <;> rfl

@[simp] theorem s2Read_regD (s : State) : (s2Read s).regD = s.regD := by
  unfold s2Read; split <;> rfl

@[simp] theorem s2Read_regE (s : State) : (s2Read s).regE = s.regE := by
  unfold s2Read; split <;> rfl

@[simp] theorem s2Read_fA (s : State) : (s2Read s).fA = s.fA := by
  unfold s2Read; split <;> rfl

@[simp] theorem s2Read_fB (s : State) : (s2Read s).fB = s.fB := by
  unfold s2Read; split <;> rfl

@[simp] theorem s2Read_sr (s : State) : (s2Read s).sr = s.sr := by
  unfold s2Read; split <;> rfl

@[simp] theorem s2Read_r5 (s : State) : (s2Read s).r5 = s.r5 := by
  unfold s2Read; split <;> rfl

@[simp] theorem s2Read_idle (s : State) : (s2Read s).idle = s.idle := by
  unfold s2Read; split <;> rfl

@[simp] theorem s2Read_hold (s : State) : (s2Read s).hold = s.hold := by
  unfold s2Read; split <;> rfl

@[simp] theorem s2Read_jump (s : State) : (s2Read s).jump = s.jump := by
  unfold s2Read; split <;> rfl

@[simp] theorem s2Read_ioValid (s : State) : (s2Read s).ioValid = s.ioValid := by
  unfold s2Read; split <;> rfl

@[simp] theorem s2Read_cond (s : State) : (s2Read s).cond = s.cond := by
  unfold s2Read; split <;> rfl

@[simp] theorem s2Read_condL (s : State) : (s2Read s).condL = s.condL := by
  unfold s2Read; split <;> rfl

@[simp] theorem s2Read_busy (s : State) : (s2Read s).busy = s.busy := by
  unfold s2Read; split <;> rfl

@[simp] theorem s2Read_ilOp (s : State) : (s2Read s).ilOp = s.ilOp := by
  unfold s2Read; split <;> rfl

@[simp] theorem s2Read_ilAddr (s : State) : (s2Read s).ilAddr = s.ilAddr := by
  unfold s2Read; split <;> rfl

@[simp] theorem s2Read_sin (s : State) : (s2Read s).sin = s.sin := by
  unfold s2Read; split <;> rfl

@[simp] theorem s2Read_ioOut (s : State) : (s2Read s).ioOut = s.ioOut := by
  unfold s2Read; split <;> rfl

@[simp] theorem s2Read_late (s : State) : (s2Read s).late = s.late := by
  unfold s2Read; split <;> rfl

@[simp] theorem s2Read_digit (s : State) : (s2Read s).digit = s.digit := by
  unfold s2Read; split <;> rfl

@[simp] theorem s2Read_extSnap (s : State) : (s2Read s).extSnap = s.extSnap := by
  unfold s2Read; split <;> rfl

@[simp] theorem s2Read_keySnap (s : State) : (s2Read s).keySnap = s.keySnap := by
  unfold s2Read; split <;> rfl

@[simp] theorem s2Read_resetCnt (s : State) : (s2Read s).resetCnt = s.resetCnt := by
  unfold s2Read; split <;> rfl

@[simp] theorem s2Read_bus (s : State) : (s2Read s).bus = s.bus := by
  unfold s2Read; split <;> rfl

@[simp] theorem s2Read_stopReq (s : State) : (s2Read s).stopReq = s.stopReq := by
  unfold s2Read; split <;> rfl

@[simp] theorem s2Read_ended (s : State) : (s2Read s).ended = s.ended := by
  unfold s2Read; split <;> rfl

@[simp] theorem s2Read_cfg (s : State) : (s2Read s).cfg = s.cfg := by
  unfold s2Read; split <;> rfl

@[simp] theorem s2Read_env (s : State) : (s2Read s).env = s.env := by
  unfold s2Read; split <;> rfl

@[simp] theorem fetchLatch_regA (s : State) : (fetchLatch s).regA = s.regA := by
  rfl

@[simp] theorem fetchLatch_regB (s : State) : (fetchLatch s).regB = s.regB := by
  rfl

@[simp] theorem fetchLatch_regC (s : State) : (fetchLatch s).regC = s.regC := by
  rfl

@[simp] theorem fetchLatch_regD (s : State) : (fetchLatch s).regD = s.regD := by
  rfl

@[simp] theorem fetchLatch_regE (s : State) : (fetchLatch s).regE = s.regE := by
  rfl

@[simp] theorem fetchLatch_fA (s : State) : (fetchLatch s).fA = s.fA := by
  rfl

@[simp] theorem fetchLatch_fB (s : State) : (fetchLatch s).fB = s.fB := by
  rfl

@[simp] theorem fetchLatch_kr (s : State) : (fetchLatch s).kr = s.kr := by
  rfl

@[simp] theorem fetchLatch_sr (s : State) : (fetchLatch s).sr = s.sr := by
  rfl

@[simp] theorem fetchLatch_r5 (s : State) : (fetchLatch s).r5 = s.r5 := by
  rfl

@[simp] theorem fetchLatch_idle (s : State) : (fetchLatch s).idle = s.idle := by
  rfl

@[simp] theorem fetchLatch_hold (s : State) : (fetchLatch s).hold = s.hold := by
  rfl

@[simp] theorem fetchLatch_jump (s : State) : (fetchLatch s).jump = s.jump := by
  rfl

@[simp] theorem fetchLatch_ioValid (s : State) : (fetchLatch s).ioValid = s.ioValid := by
  rfl

@[simp] theorem fetchLatch_cond (s : State) : (fetchLatch s).cond = s.cond := by
  rfl

@[simp] theorem fetchLatch_condL (s : State) : (fetchLatch s).condL = s.condL := by
  rfl

@[simp] theorem fetchLatch_busy (s : State) : (fetchLatch s).busy = s.busy := by
  rfl

@[simp] theorem fetchLatch_sin (s : State) : (fetchLatch s).sin = s.sin := by
  rfl

@[simp] theorem fetchLatch_ioOut (s : State) : (fetchLatch s).ioOut = s.ioOut := by
  rfl

@[simp] theorem fetchLatch_late (s : State) : (fetchLatch s).late = s.late := by
  rfl

@[simp] theorem fetchLatch_digit (s : State) : (fetchLatch s).digit = s.digit := by
  rfl

@[simp] theorem fetchLatch_extSnap (s : State) : (fetchLatch s).extSnap = s.extSnap := by
  rfl

@[simp] theorem fetchLatch_keySnap (s : State) : (fetchLatch s).keySnap = s.keySnap := by
  rfl

@[simp] theorem fetchLatch_resetCnt (s : State) : (fetchLatch s).resetCnt = s.resetCnt := by
  rfl

@[simp] theorem fetchLatch_bus (s : State) : (fetchLatch s).bus = s.bus := by
  rfl

@[simp] theorem fetchLatch_ended (s : State) : (fetchLatch s).ended = s.ended := by
  rfl

@[simp] theorem fetchLatch_cfg (s : State) : (fetchLatch s).cfg = s.cfg := by
  rfl

@[simp] theorem fetchLatch_env (s : State) : (fetchLatch s).env = s.env := by
  rfl

@[simp] theorem s0WriteEnter_regA (s : State) : (s0WriteEnter s).regA = s.regA := by
  rfl

@[simp] theorem s0WriteEnter_regB (s : State) : (s0WriteEnter s).regB = s.regB := by
  rfl

@[simp] theorem s0WriteEnter_regC (s : State) : (s0WriteEnter s).regC = s.regC := by
  rfl

@[simp] theorem s0WriteEnter_regD (s : State) : (s0WriteEnter s).regD = s.regD := by
  rfl

@[simp] theorem s0WriteEnter_regE (s : State) : (s0WriteEnter s).regE = s.regE := by
  rfl

@[simp] theorem s0WriteEnter_fA (s : State) : (s0WriteEnter s).fA = s.fA := by
  rfl

@[simp] theorem s0WriteEnter_fB (s : State) : (s0WriteEnter s).fB = s.fB := by
  rfl

@[simp] theorem s0WriteEnter_kr (s : State) : (s0WriteEnter s).kr = s.kr := by
  rfl

@[simp] theorem s0WriteEnter_sr (s : State) : (s0WriteEnter s).sr = s.sr := by
  rfl

@[simp] theorem s0WriteEnter_r5 (s : State) : (s0WriteEnter s).r5 = s.r5 := by
  rfl

@[simp] theorem s0WriteEnter_idle (s : State) : (s0WriteEnter s).idle = s.idle := by
  rfl

@[simp] theorem s0WriteEnter_jump (s : State) : (s0WriteEnter s).jump = s.jump := by
  rfl

@[simp] theorem s0WriteEnter_ioValid (s : State) : (s0WriteEnter s).ioValid = s.ioValid := by
  rfl

@[simp] theorem s0WriteEnter_cond (s : State) : (s0WriteEnter s).cond = s.cond := by
  rfl

@[simp] theorem s0WriteEnter_busy (s : State) : (s0WriteEnter s).busy = s.busy := by
  rfl

@[simp] theorem s0WriteEnter_ilOp (s : State) : (s0WriteEnter s).ilOp = s.ilOp := by
  rfl

@[simp] theorem s0WriteEnter_ilAddr (s : State) : (s0WriteEnter s).ilAddr = s.ilAddr := by
  rfl

@[simp] theorem s0WriteEnter_ioOut (s : State) : (s0WriteEnter s).ioOut = s.ioOut := by
  rfl

@[simp] theorem s0WriteEnter_resetCnt (s : State) : (s0WriteEnter s).resetCnt = s.resetCnt := by
  rfl

@[simp] theorem s0WriteEnter_bus (s : State) : (s0WriteEnter s).bus = s.bus := by
  rfl

@[simp] theorem s0WriteEnter_stopReq (s : State) : (s0WriteEnter s).stopReq = s.stopReq := by
  rfl

@[simp] theorem s0WriteEnter_ended (s : State) : (s0WriteEnter s).ended = s.ended := by
  rfl

@[simp] theorem s0WriteEnter_cfg (s : State) : (s0WriteEnter s).cfg = s.cfg := by
  rfl

@[simp] theorem s0WriteEnter_env (s : State) : (s0WriteEnter s).env = s.env := by
  rfl

@[simp] theorem setReg_reg (s : State) (r : Reg) (v : Digits) : (s.setReg r v).reg r = v := by
  cases r <;> rfl

theorem setReg_reg_ne (s : State) (r q : Reg) (v : Digits) (h : q ≠ r) : (s.setReg r v).reg q = s.reg q := by
  cases r <;> cases q <;> first | rfl | exact absurd rfl h

theorem reg_setReg (s : State) (r q : Reg) (v : Digits) :
    (s.setReg r v).reg q = if q = r then v else s.reg q := by
  split
  · next h => rw [h, setReg_reg]
  · next h => exact setReg_reg_ne s r q v h

/-- Everything the re-arm can do (41_branch.md R182). -/
theorem rearm_eq_entered (s : State) : rearm s = entered s := by
  unfold rearm entered
  split
  · next h => simp [h]
  · next h => cases s; simp_all

end Sys2Proof.Machine
end

