-- ==== Sys2Proof/Laws/Ops.lean ====
section
/-!
SUPPORT. One lemma per named operation over words and digit vectors: what it does to every digit or bit.
-/
namespace Sys2Proof.Machine

open Sys2Proof

theorem digitAt_of_lt (R : Digits) (i : Nat) (h : i < 16) : digitAt R i = R[i] := by
  simp [digitAt, h]

theorem digitAt_of_ge (R : Digits) (i : Nat) (h : 16 ≤ i) : digitAt R i = 0 := by
  simp [digitAt, Nat.not_lt.mpr h]

theorem digits_ext (R S : Digits) (h : ∀ i, i < 16 → digitAt R i = digitAt S i) : R = S := by
  apply Vector.ext
  intro i hi
  simpa [digitAt, hi] using h i hi

theorem digitAt_setDigit (R : Digits) (i j : Nat) (v : Digit) :
    digitAt (setDigit R i v) j = if i = j ∧ j < 16 then v else digitAt R j := by
  unfold digitAt setDigit
  by_cases hj : j < 16
  · simp [hj, Vector.getElem_setIfInBounds]
  · simp [hj]

@[simp] theorem digitAt_zeroDigits (i : Nat) : digitAt zeroDigits i = 0 := by
  unfold digitAt zeroDigits
  split
  · simp
  · rfl

theorem digitAt_mergeWindow (m : MaskDesc) (P Q : Digits) (i : Nat) :
    digitAt (mergeWindow m P Q) i = if m.InWindow i then digitAt Q i else digitAt P i := by
  unfold digitAt mergeWindow
  by_cases hi : i < 16
  · simp [hi]
  · simp [hi]

theorem getLsbD_bitMask (b : BitVec 4) (k : Nat) : (bitMask b).getLsbD k = decide (k = b.toNat) := by
  have hb := b.isLt
  unfold bitMask
  rw [BitVec.getLsbD_shiftLeft, BitVec.getLsbD_one]
  by_cases h1 : k = b.toNat
  · simp [h1]
    omega
  · by_cases h2 : k < b.toNat
    · simp [h1, h2]
    · have : k - b.toNat ≠ 0 := by omega
      simp [h1, this]

theorem getLsbD_setBit (w : Word16) (b : BitVec 4) (k : Nat) :
    (setBit w b).getLsbD k = if k = b.toNat then true else w.getLsbD k := by
  unfold setBit
  rw [BitVec.getLsbD_or, getLsbD_bitMask]
  by_cases h : k = b.toNat <;> simp [h]

theorem getLsbD_clearBit (w : Word16) (b : BitVec 4) (k : Nat) :
    (clearBit w b).getLsbD k = if k = b.toNat then false else w.getLsbD k := by
  unfold clearBit
  rw [BitVec.getLsbD_and, BitVec.getLsbD_not, getLsbD_bitMask]
  by_cases h : k = b.toNat
  · simp [h]
  · by_cases hk : k < 16
    · simp [h, hk]
    · simp [h, hk, BitVec.getLsbD_of_ge w k (by omega)]

theorem getLsbD_invertBit (w : Word16) (b : BitVec 4) (k : Nat) :
    (invertBit w b).getLsbD k = if k = b.toNat then !w.getLsbD k else w.getLsbD k := by
  unfold invertBit
  rw [BitVec.getLsbD_xor, getLsbD_bitMask]
  by_cases h : k = b.toNat <;> simp [h]

theorem getLsbD_putBit (w : Word16) (b : BitVec 4) (v : Bool) (k : Nat) :
    (putBit w b v).getLsbD k = if k = b.toNat then v else w.getLsbD k := by
  unfold putBit
  cases v
  · simp [getLsbD_clearBit]
  · simp [getLsbD_setBit]

theorem getLsbD_nibbleAt (w : Word16) (lo k : Nat) :
    (nibbleAt w lo).getLsbD k = (decide (k < 4) && w.getLsbD (lo + k)) := by
  unfold nibbleAt
  rw [BitVec.getLsbD_extractLsb']

theorem getLsbD_putNibble (w : Word16) (lo : Nat) (v : Digit) (k : Nat) (hlo : lo ≤ 12) :
    (putNibble w lo v).getLsbD k =
      if lo ≤ k ∧ k < lo + 4 then v.getLsbD (k - lo) else w.getLsbD k := by
  by_cases hk : k < 16
  · have h15 : (15#16).getLsbD (k - lo) = decide (k - lo < 4) := by
      have h : ∀ j : Fin 16, (15#16).getLsbD j.val = decide (j.val < 4) := by decide
      exact h ⟨k - lo, by omega⟩
    unfold putNibble
    rw [BitVec.getLsbD_or, BitVec.getLsbD_and, BitVec.getLsbD_not, BitVec.getLsbD_shiftLeft,
      BitVec.getLsbD_shiftLeft, BitVec.getLsbD_setWidth, h15]
    by_cases h1 : lo ≤ k
    · by_cases h2 : k < lo + 4
      · have h3 : k - lo < 4 := by omega
        have h4 : k - lo < 16 := by omega
        simp [hk, h1, h2, h3, h4, Nat.not_lt.mpr h1]
      · have h3 : ¬ k - lo < 4 := by omega
        simp [hk, h1, h2, h3, Nat.not_lt.mpr h1, BitVec.getLsbD_of_ge v (k - lo) (by omega)]
    · simp [hk, h1, Nat.lt_of_not_le h1]
  · have h1 : ¬ (lo ≤ k ∧ k < lo + 4) := by omega
    simp [h1, BitVec.getLsbD_of_ge _ k (Nat.not_lt.mp hk)]

theorem getLsbD_rotr16 (v : Word16) (k : Nat) (hk : k < 16) :
    (rotr16 v).getLsbD k = v.getLsbD ((k + 1) % 16) := by
  unfold rotr16
  rw [BitVec.getLsbD_rotateRight]
  by_cases h : k < 15
  · simp [h, Nat.mod_eq_of_lt (show k + 1 < 16 by omega), Nat.add_comm]
  · have : k = 15 := by omega
    simp [this]

theorem getLsbD_rotl16 (v : Word16) (k : Nat) (hk : k < 16) :
    (rotl16 v).getLsbD k = v.getLsbD ((k + 15) % 16) := by
  unfold rotl16
  rw [BitVec.getLsbD_rotateLeft]
  by_cases h : k = 0
  · simp [h]
  · have h1 : ¬ k < 1 := by omega
    have h2 : (k + 15) % 16 = k - 1 := by omega
    simp [h1, h2, hk]

/-- Reading EXT back restores the published KR (44_wait_ops.md R257). -/
theorem rotl16_rotr16 (v : Word16) : rotl16 (rotr16 v) = v := by
  apply BitVec.eq_of_getLsbD_eq
  intro k hk
  rw [getLsbD_rotl16 _ _ hk, getLsbD_rotr16 _ _ (Nat.mod_lt _ (by decide))]
  congr 1
  omega

/-- Everything the test operations can do to COND. -/
theorem clearCondIf_eq (b : Bool) (s : State) : clearCondIf b s = { s with cond := s.cond && !b } := by
  cases b <;> simp [clearCondIf]

theorem onNext_eq_next (o : Result) (f : State → State) (t : State) :
    onNext o f = .next t ↔ ∃ u, o = .next u ∧ t = f u := by
  cases o <;> simp [onNext, eq_comm]

end Sys2Proof.Machine
end

