-- ==== Sys2Proof/Laws/Alu.lean ====
section
/-!
SUPPORT. What the ALU pass and the exchange do: the digit arithmetic against exact arithmetic, the loop against
the window (40_alu_exchange.md R158), and the pass's and the exchange's effect on every register.
-/
namespace Sys2Proof.Machine

open Sys2Proof

/-- The 8-bit working sum as a number (40_alu_exchange.md R147). -/
theorem workingSum_toNat (k : Kind) (x y : Digit) (c : Bool) :
    (workingSum k x (y.setWidth 8 + if c then 1 else 0)).toNat =
      if k = .sub then (256 + x.toNat - (y.toNat + c.toNat)) % 256 else x.toNat + (y.toNat + c.toNat) := by
  have hx := x.isLt
  have hy := y.isLt
  cases k <;> cases c <;> simp [workingSum, BitVec.toNat_sub, BitVec.toNat_add] <;> try omega

theorem digitCarry_exact (k : Kind) (i : Nat) (x y : Digit) (c : Bool) :
    digitCarry i (workingSum k x (y.setWidth 8 + if c then 1 else 0)) =
      exactCarry k i x.toNat (y.toNat + c.toNat) := by
  have hx := x.isLt
  have hy := y.isLt
  have hc : c.toNat ≤ 1 := by cases c <;> decide
  unfold digitCarry
  rw [workingSum_toNat]
  by_cases hi : i = 0
  · cases k <;> simp [exactCarry, hi]
    omega
  · cases k <;> simp [exactCarry, hi]
    rw [← Bool.decide_or]
    apply decide_eq_decide.mpr
    omega

theorem correctTen_toNat (k : Kind) (s : BitVec 8) :
    (correctTen k s).toNat = if k = .sub then (s.toNat + 10) % 256 else (s.toNat + 246) % 256 := by
  have hs := s.isLt
  cases k <;> simp [correctTen, BitVec.toNat_sub, BitVec.toNat_add] <;> try omega

theorem digitValue_exact (k : Kind) (i : Nat) (x y : Digit) (c : Bool) :
    (digitValue k i (workingSum k x (y.setWidth 8 + if c then 1 else 0))).toNat =
      exactValue k i x.toNat (y.toNat + c.toNat) := by
  have hx := x.isLt
  have hy := y.isLt
  have hc : c.toNat ≤ 1 := by cases c <;> decide
  have hC := digitCarry_exact k i x y c
  have hS := workingSum_toNat k x y c
  revert hC hS
  generalize workingSum k x (y.setWidth 8 + if c then 1 else 0) = w
  intro hC hS
  unfold digitValue
  unfold digitCarry at hC
  by_cases hi : i = 0
  · cases k <;> (simp [exactValue, hi, hS] ; try omega)
  · rw [if_neg hi] at hC
    by_cases h10 : 10 ≤ w.toNat
    · have hk := correctTen_toNat k w
      rw [decide_eq_true h10] at hC
      cases k <;> simp [exactValue, hi, h10, ← hC] <;> simp [hS] at hk h10 <;> omega
    · rw [decide_eq_false h10] at hC
      cases k <;> simp [exactValue, hi, h10, ← hC] <;> (simp [hS] at h10 ⊢ ; try omega)

/-- The digits a pass reads, as numbers. -/
abbrev nats (f : Nat → Digit) (i : Nat) : Nat := (f i).toNat

/-- The window part of the loop of 40_alu_exchange.md R141: its state after the first n digits of the window. -/
structure InWindowPass (k : Kind) (m : MaskDesc) (X Y : Nat → Digit) (p0 p : Pass) (n : Nat) : Prop where
  carry : p.carry = windowCarry k m.start (nats X) (nats Y) n
  shl : k = .shl → 1 ≤ n → p.shl.toNat = windowDigit k m.start (nats X) (nats Y) (m.start.val + n - 1)
  r5 : 1 ≤ n → p.r5.toNat = windowDigit k m.start (nats X) (nats Y) m.start
  cond : p.cond = if n = m.last.val + 1 - m.start.val then condAfter k m (nats X) (nats Y) p0.cond else p0.cond
  below : ∀ i, ¬ (m.start.val ≤ i ∧ i < m.start.val + n) → digitAt p.dest i = digitAt p0.dest i
  value : ∀ i, m.start.val ≤ i → i < m.start.val + n → (k ≠ .shr ∨ i + 1 < m.start.val + n ∨ i = m.last.val) →
    (digitAt p.dest i).toNat = windowResult k m (nats X) (nats Y) (nats (digitAt p0.dest) i) i
  kept : k = .shr → 1 ≤ n → n < m.last.val + 1 - m.start.val →
    digitAt p.dest (m.start.val + n - 1) = digitAt p0.dest (m.start.val + n - 1)

theorem passDigit_below (k : Kind) (m : MaskDesc) (x y : Digit) (i : Nat) (p : Pass) (h : ¬ m.InWindow i) :
    (passDigit k m x y i p).dest = p.dest ∧ (passDigit k m x y i p).r5 = p.r5 ∧
      (passDigit k m x y i p).cond = p.cond := by
  unfold passDigit
  simp only [if_neg h, and_self]

/-- Before the window the loop writes nothing (40_alu_exchange.md R158). -/
theorem passUpto_before (k : Kind) (m : MaskDesc) (X Y : Nat → Digit) (p0 : Pass) (n : Nat)
    (h : n ≤ m.start.val) :
    (passUpto k m X Y p0 n).dest = p0.dest ∧ (passUpto k m X Y p0 n).r5 = p0.r5 ∧
      (passUpto k m X Y p0 n).cond = p0.cond := by
  induction n with
  | zero => exact ⟨rfl, rfl, rfl⟩
  | succ n ih =>
    have hw : ¬ m.InWindow n := fun hw => absurd hw.1 (by omega)
    obtain ⟨h1, h2, h3⟩ := passDigit_below k m (X n) (Y n) n (passUpto k m X Y p0 n) hw
    obtain ⟨g1, g2, g3⟩ := ih (by omega)
    exact ⟨h1.trans g1, h2.trans g2, h3.trans g3⟩

/-- After the window the loop writes nothing (40_alu_exchange.md R158). -/
theorem passUpto_after (k : Kind) (m : MaskDesc) (X Y : Nat → Digit) (p0 : Pass) (n d : Nat)
    (h : m.last.val < n) :
    (passUpto k m X Y p0 (n + d)).dest = (passUpto k m X Y p0 n).dest ∧
      (passUpto k m X Y p0 (n + d)).r5 = (passUpto k m X Y p0 n).r5 ∧
      (passUpto k m X Y p0 (n + d)).cond = (passUpto k m X Y p0 n).cond := by
  induction d with
  | zero => exact ⟨rfl, rfl, rfl⟩
  | succ d ih =>
    have hw : ¬ m.InWindow (n + d) := fun hw => absurd hw.2 (by omega)
    obtain ⟨h1, h2, h3⟩ := passDigit_below k m (X (n + d)) (Y (n + d)) (n + d) (passUpto k m X Y p0 (n + d)) hw
    exact ⟨h1.trans ih.1, h2.trans ih.2.1, h3.trans ih.2.2⟩

theorem digitAt_toNat_lt (R : Digits) (i : Nat) : (digitAt R i).toNat < 16 := (digitAt R i).isLt

theorem windowDigit_at (k : Kind) (m : MaskDesc) (X Y : Nat → Digit) (n : Nat) (c : Bool)
    (hc : c = windowCarry k m.start (nats X) (nats Y) n) (i : Nat) (hi : i = m.start.val + n) :
    (digitValue k i (workingSum k (X i) ((Y i).setWidth 8 + if c then 1 else 0))).toNat =
        windowDigit k m.start (nats X) (nats Y) i ∧
      digitCarry i (workingSum k (X i) ((Y i).setWidth 8 + if c then 1 else 0)) =
        windowCarry k m.start (nats X) (nats Y) (n + 1) := by
  constructor
  · rw [digitValue_exact]
    unfold windowDigit
    rw [hi, Nat.add_sub_cancel_left, hc]
  · rw [digitCarry_exact]
    unfold windowCarry
    rw [hi, hc]

/-- One iteration inside the window. -/
theorem passDigit_inWindow (k : Kind) (m : MaskDesc) (X Y : Nat → Digit) (p0 p : Pass) (n : Nat)
    (hm : m.start.val + n ≤ m.last.val) (h : InWindowPass k m X Y p0 p n) :
    InWindowPass k m X Y p0 (passDigit k m (X (m.start.val + n)) (Y (m.start.val + n)) (m.start.val + n) p)
      (n + 1) := by
  have hl := m.last.isLt
  have hw : m.InWindow (m.start.val + n) := ⟨by omega, hm⟩
  have hcar : (if m.start.val + n = m.start.val then false else p.carry) =
      windowCarry k m.start (nats X) (nats Y) n := by
    cases n with
    | zero => simp [windowCarry]
    | succ n => rw [if_neg (by omega), h.carry]
  obtain ⟨hv, hc⟩ := windowDigit_at k m X Y n _ hcar _ rfl
  have hshl : k = .shl →
      (if m.start.val + n = m.start.val then (0 : Digit) else p.shl).toNat =
        if n = 0 then 0 else windowDigit k m.start (nats X) (nats Y) (m.start.val + n - 1) := by
    intro hk
    cases n with
    | zero => simp
    | succ n => rw [if_neg (by omega), if_neg (by omega), h.shl hk (by omega)]
  revert hv hc hshl
  unfold passDigit
  simp only [if_pos hw]
  generalize (if m.start.val + n = m.start.val then false else p.carry) = car
  generalize (if m.start.val + n = m.start.val then (0 : Digit) else p.shl) = sh
  generalize digitCarry (m.start.val + n)
    (workingSum k (X (m.start.val + n)) ((Y (m.start.val + n)).setWidth 8 + if car then 1 else 0)) = c
  generalize digitValue k (m.start.val + n)
    (workingSum k (X (m.start.val + n)) ((Y (m.start.val + n)).setWidth 8 + if car then 1 else 0)) = v
  intro hv hc hshl
  refine ⟨hc, ?_, ?_, ?_, ?_, ?_, ?_⟩
  · intro hk _
    simpa [hk] using hv
  · intro _
    by_cases hn : n = 0
    · subst hn
      simpa using hv
    · simpa [hn] using h.r5 (by omega)
  · by_cases hlast : m.start.val + n = m.last.val
    · have h1 : n + 1 = m.last.val + 1 - m.start.val := by omega
      have h2 : ¬ n = m.last.val + 1 - m.start.val := by omega
      have hp : p.cond = p0.cond := by rw [h.cond, if_neg h2]
      have ho : c = windowCarryOut k m (nats X) (nats Y) := by rw [hc, h1]; rfl
      rw [if_pos h1, hp, ho]
      cases k <;> simp [condAfter, isAddSub, hlast]
      · cases windowCarryOut .add m (nats X) (nats Y) <;> simp
      · cases windowCarryOut .sub m (nats X) (nats Y) <;> simp
    · have h1 : ¬ n + 1 = m.last.val + 1 - m.start.val := by omega
      have h2 : ¬ n = m.last.val + 1 - m.start.val := by omega
      simp [h1, hlast, h.cond, h2]
  · intro i hi
    have hi' : ¬ (m.start.val ≤ i ∧ i < m.start.val + n) := by omega
    rw [← h.below i hi']
    cases k <;> simp only [writeDigit, digitAt_setDigit]
    · rw [if_neg (by omega)]
    · rw [if_neg (by omega)]
    · rw [if_neg (by omega)]
    · split <;> split <;> simp only [digitAt_setDigit] <;>
        first | rfl | (rw [if_neg (by omega)]) <;> first | rfl | (rw [if_neg (by omega)])
  · intro i hi1 hi2 hcase
    have hwi : m.InWindow i := ⟨hi1, by omega⟩
    have hi16 : i < 16 := by omega
    by_cases hin : i < m.start.val + n
    · cases k with
      | add =>
        have := h.value i hi1 hin (by simp)
        simp only [writeDigit, digitAt_setDigit]
        rw [if_neg (by omega), this]
      | sub =>
        have := h.value i hi1 hin (by simp)
        simp only [writeDigit, digitAt_setDigit]
        rw [if_neg (by omega), this]
      | shl =>
        have := h.value i hi1 hin (by simp)
        simp only [writeDigit, digitAt_setDigit]
        rw [if_neg (by omega), this]
      | shr =>
        simp only [writeDigit]
        have hst : m.start.val < m.start.val + n := by omega
        by_cases hprev : i + 1 = m.start.val + n
        · have hnl : i ≠ m.last.val := by omega
          have hres : windowResult .shr m (nats X) (nats Y) (nats (digitAt p0.dest) i) i =
              (Y (m.start.val + n)).toNat := by
            simp [windowResult, hwi, hnl, nats, hprev]
          rw [hres, if_pos hst]
          have hidx : m.start.val + n - 1 = i := by omega
          split
          · simp only [digitAt_setDigit, hidx]
            rw [if_neg (by omega)]
            simp [hi16]
          · simp only [digitAt_setDigit, hidx]
            simp [hi16]
        · have := h.value i hi1 hin (by
            right
            rcases hcase with hh | hh | hh
            · exact absurd rfl hh
            · left; omega
            · right; exact hh)
          rw [← this, if_pos hst]
          split
          · simp only [digitAt_setDigit]
            rw [if_neg (by omega), if_neg (by omega)]
          · simp only [digitAt_setDigit]
            rw [if_neg (by omega)]
    · have hieq : i = m.start.val + n := by omega
      subst hieq
      cases k with
      | add => simp [writeDigit, digitAt_setDigit, hi16, windowResult, hwi, hv]
      | sub => simp [writeDigit, digitAt_setDigit, hi16, windowResult, hwi, hv]
      | shl =>
        have := hshl rfl
        simp only [writeDigit, digitAt_setDigit, windowResult, if_pos hwi]
        simp only [hi16, and_self, if_true, this]
        by_cases hn : n = 0 <;> simp [hn]
      | shr =>
        have hlast : m.start.val + n = m.last.val := by
          rcases hcase with hh | hh | hh
          · exact absurd rfl hh
          · omega
          · exact hh
        simp only [writeDigit, if_pos hlast, digitAt_setDigit, windowResult, if_pos hwi]
        simp [hi16]
  · intro hk _ hlt
    subst hk
    have hnl : ¬ m.start.val + n = m.last.val := by omega
    have hidx : m.start.val + (n + 1) - 1 = m.start.val + n := by omega
    rw [hidx]
    have hb := h.below (m.start.val + n) (by omega)
    simp only [writeDigit, if_neg hnl]
    rw [← hb]
    split
    · simp only [digitAt_setDigit]
      rw [if_neg (by omega)]
    · rfl

theorem passUpto_inWindow (k : Kind) (m : MaskDesc) (X Y : Nat → Digit) (p0 : Pass) (n : Nat)
    (hm : m.start.val + n ≤ m.last.val + 1) (h1 : 1 ≤ n) :
    InWindowPass k m X Y p0 (passUpto k m X Y p0 (m.start.val + n)) n := by
  have hbase : ∀ p : Pass, p.dest = p0.dest → p.r5 = p0.r5 → p.cond = p0.cond → m.start.val ≤ m.last.val →
      InWindowPass k m X Y p0 (passDigit k m (X m.start.val) (Y m.start.val) m.start.val p) 1 := by
    intro p hd _ hc hle
    have h0 : InWindowPass k m X Y p0 { p with carry := false } 0 := by
      refine ⟨rfl, fun _ h => absurd h (by omega), fun h => absurd h (by omega), ?_, ?_, ?_, ?_⟩
      · rw [if_neg (by omega)]
        exact hc
      · intro i _
        exact congrArg (digitAt · i) hd
      · intro i h1 h2
        omega
      · intro _ h
        omega
    have := passDigit_inWindow k m X Y p0 _ 0 (by omega) h0
    have he : passDigit k m (X m.start.val) (Y m.start.val) m.start.val { p with carry := false } =
        passDigit k m (X m.start.val) (Y m.start.val) m.start.val p := by
      unfold passDigit
      simp
    rw [← he]
    exact this
  induction n with
  | zero => omega
  | succ n ih =>
    by_cases hn : n = 0
    · subst hn
      obtain ⟨g1, g2, g3⟩ := passUpto_before k m X Y p0 m.start.val (Nat.le_refl _)
      exact hbase _ g1 g2 g3 (by omega)
    · exact passDigit_inWindow k m X Y p0 _ n (by omega) (ih (by omega) (by omega))

/-- Everything the loop of R141 can do over a window (40_alu_exchange.md R141 to R158). -/
theorem pass_spec (k : Kind) (m : MaskDesc) (X Y : Nat → Digit) (p0 : Pass) (hm : m.HasWindow) :
    (passUpto k m X Y p0 16).r5.toNat = windowDigit k m.start (nats X) (nats Y) m.start ∧
      (passUpto k m X Y p0 16).cond = condAfter k m (nats X) (nats Y) p0.cond ∧
      ∀ i, (digitAt (passUpto k m X Y p0 16).dest i).toNat =
        windowResult k m (nats X) (nats Y) (nats (digitAt p0.dest) i) i := by
  have hl := m.last.isLt
  have hle : m.start.val ≤ m.last.val := hm
  have hP := passUpto_inWindow k m X Y p0 (m.last.val + 1 - m.start.val) (by omega) (by omega)
  rw [show m.start.val + (m.last.val + 1 - m.start.val) = m.last.val + 1 by omega] at hP
  obtain ⟨a1, a2, a3⟩ := passUpto_after k m X Y p0 (m.last.val + 1) (15 - m.last.val) (by omega)
  rw [show m.last.val + 1 + (15 - m.last.val) = 16 by omega] at a1 a2 a3
  rw [a1, a2, a3]
  refine ⟨hP.r5 (by omega), by rw [hP.cond, if_pos rfl], fun i => ?_⟩
  by_cases hi : m.InWindow i
  · exact hP.value i hi.1 (by have := hi.2; omega) (by have := hi.2; omega)
  · rw [hP.below i (fun hh => hi ⟨hh.1, by omega⟩)]
    simp only [windowResult, if_neg hi]

/-- A descriptor without a window changes nothing at all (40_alu_exchange.md R156). -/
theorem alu_malformed (k : Kind) (X Y : Digits) (t : Target) (m : MaskDesc) (s : State) (hm : ¬ m.HasWindow) :
    alu k X Y t m s = s := by
  unfold alu
  rw [if_pos (Fin.not_le.mp hm)]

@[simp] theorem setTarget_reg_ioOut (s : State) (v : Digits) (r : Reg) :
    (s.setTarget .ioOut v).reg r = s.reg r := by
  cases r <;> rfl

/-- Everything a pass over a window can do: R5 and COND, and a destination whose digits are those of the window
computation (40_alu_exchange.md R140, R141). -/
theorem alu_spec (k : Kind) (X Y : Digits) (t : Target) (m : MaskDesc) (s : State) (hm : m.HasWindow) :
    ∃ D r c, alu k X Y t m s = { s.setTarget t D with r5 := r, cond := c } ∧
      r.toNat = windowDigit k m.start (nats (digitAt X)) (nats (s.secondOperand m Y)) m.start ∧
      c = condAfter k m (nats (digitAt X)) (nats (s.secondOperand m Y)) s.cond ∧
      ∀ i, (digitAt D i).toNat =
        windowResult k m (nats (digitAt X)) (nats (s.secondOperand m Y)) (nats (digitAt (s.targetValue t)) i) i := by
  obtain ⟨h1, h2, h3⟩ := pass_spec k m (digitAt X) (s.secondOperand m Y)
    { carry := false, shl := 0, dest := s.targetValue t, r5 := s.r5, cond := s.cond } hm
  refine ⟨_, _, _, ?_, h1, h2, h3⟩
  unfold alu
  rw [if_neg (Fin.not_lt.mpr hm)]

/-- Everything an exchange can do (40_alu_exchange.md R160). -/
theorem exchange_reg (p q r : Reg) (m : MaskDesc) (s : State) (hpq : p ≠ q) (i : Nat) :
    digitAt ((exchange p q m s).reg r) i =
      if m.InWindow i ∧ r = p then digitAt (s.reg q) i
      else if m.InWindow i ∧ r = q then digitAt (s.reg p) i
      else digitAt (s.reg r) i := by
  have hqp : q ≠ p := fun h => hpq h.symm
  unfold exchange
  rw [reg_setReg, reg_setReg]
  by_cases h1 : r = q
  · subst h1
    simp only [if_true, hqp, and_false, if_false, and_true]
    rw [digitAt_mergeWindow]
  · by_cases h2 : r = p
    · subst h2
      simp only [h1, if_false, if_true, and_true, and_false]
      rw [digitAt_mergeWindow]
    · simp only [h1, h2, if_false, and_false]

end Sys2Proof.Machine
end

