-- ==== Sys2Proof/Laws/PerInstr.lean ====
section
/-!
SUPPORT. The per-instruction family OpcodeRow: the word of every well-formed instruction matches its own row of
spec/opcode_table.json (the row's mask and match), one lemma per constructor.
-/
namespace Sys2Proof.Laws.OpcodeRow

open Sys2Proof

/-- The mask and the match of the instruction's row in spec/opcode_table.json. -/
def row (i : Instr) : OpWord × OpWord :=
  match i with
  | .br _ => (0x1000, 0x1000)
  | .tfa _ => (0x1F0F, 0x0000)
  | .sfa _ => (0x1F0F, 0x0001)
  | .zfa _ => (0x1F0F, 0x0002)
  | .ifa _ => (0x1F0F, 0x0003)
  | .xfab _ => (0x1F0F, 0x0004)
  | .skr _ => (0x1F0F, 0x0005)
  | .cfab _ => (0x1F0F, 0x0006)
  | .r5fa _ => (0x1F0F, 0x0007)
  | .tfb _ => (0x1F0F, 0x0008)
  | .sfb _ => (0x1F0F, 0x0009)
  | .zfb _ => (0x1F0F, 0x000A)
  | .ifb _ => (0x1F0F, 0x000B)
  | .frsv _ => (0x1F0F, 0x000C)
  | .zkr _ => (0x1F0F, 0x000D)
  | .cfba _ => (0x1F0F, 0x000E)
  | .r5fb _ => (0x1F0F, 0x000F)
  | .kscan _ => (0x1F08, 0x0808)
  | .ktest _ => (0x1F08, 0x0800)
  | .waitd _ => (0x1F0F, 0x0A00)
  | .clridle _ => (0x1F0F, 0x0A01)
  | .clrfa _ => (0x1F0F, 0x0A02)
  | .waitbusy _ => (0x1F0F, 0x0A03)
  | .inckr _ => (0x1F0F, 0x0A04)
  | .tkr _ => (0x1F0F, 0x0A05)
  | .far5 _ => (0x1F1F, 0x0A06)
  | .fbr5 _ => (0x1F1F, 0x0A16)
  | .ldr5 _ => (0x1F0F, 0x0A07)
  | .krr5 _ => (0x1F1F, 0x0A08)
  | .r5kr _ => (0x1F1F, 0x0A18)
  | .setidle _ => (0x1F0F, 0x0A09)
  | .clrfb _ => (0x1F0F, 0x0A0A)
  | .tbusy _ => (0x1F0F, 0x0A0B)
  | .extkr _ => (0x1F0F, 0x0A0C)
  | .xkrsr _ => (0x1F0F, 0x0A0D)
  | .wrsv14 _ => (0x1F0F, 0x0A0E)
  | .wrsv15 _ => (0x1F0F, 0x0A0F)
  | .addAK _ _ => (0x10F8, 0x0000)
  | .subAK _ _ => (0x10F8, 0x0008)
  | .add0B _ _ => (0x10F8, 0x0010)
  | .sub0B _ _ => (0x10F8, 0x0018)
  | .addCK _ _ => (0x10F8, 0x0020)
  | .subCK _ _ => (0x10F8, 0x0028)
  | .add0D _ _ => (0x10F8, 0x0030)
  | .sub0D _ _ => (0x10F8, 0x0038)
  | .shlA _ _ => (0x10F8, 0x0040)
  | .shrA _ _ => (0x10F8, 0x0048)
  | .shlB _ _ => (0x10F8, 0x0050)
  | .shrB _ _ => (0x10F8, 0x0058)
  | .shlC _ _ => (0x10F8, 0x0060)
  | .shrC _ _ => (0x10F8, 0x0068)
  | .shlD _ _ => (0x10F8, 0x0070)
  | .shrD _ _ => (0x10F8, 0x0078)
  | .addAB _ _ => (0x10F8, 0x0080)
  | .subAB _ _ => (0x10F8, 0x0088)
  | .addCB _ _ => (0x10F8, 0x0090)
  | .subCB _ _ => (0x10F8, 0x0098)
  | .addCD _ _ => (0x10F8, 0x00A0)
  | .subCD _ _ => (0x10F8, 0x00A8)
  | .addAD _ _ => (0x10F8, 0x00B0)
  | .subAD _ _ => (0x10F8, 0x00B8)
  | .addAIO _ _ => (0x10F8, 0x00C0)
  | .subAIO _ _ => (0x10F8, 0x00C8)
  | .add0K _ _ => (0x10F8, 0x00D0)
  | .sub0K _ _ => (0x10F8, 0x00D8)
  | .addCIO _ _ => (0x10F8, 0x00E0)
  | .subCIO _ _ => (0x10F8, 0x00E8)
  | .addR5 _ _ => (0x10F8, 0x00F0)
  | .subR5 _ _ => (0x10F8, 0x00F8)

/-- The word of the instruction has the row's fixed bits. -/
def Statement (i : Instr) : Prop :=
  i.WellFormed → encode i &&& (row i).1 = (row i).2

/-- The fixed bit of the branch row, for every t. -/
theorem branch_word_matches (t : BitVec 12) : (1#1 ++ t : OpWord) &&& 0x1000 = 0x1000 := by
  apply BitVec.eq_of_getLsbD_eq
  intro i hi
  have h : (1#1 ++ t : OpWord).getLsbD i = if i < 12 then t.getLsbD i else (1#1).getLsbD (i - 12) :=
    BitVec.getLsbD_append
  rw [BitVec.getLsbD_and, h]
  interval_cases i <;> simp

/-- The fixed bits of an arithmetic row, for every mask index and destination. -/
theorem arithmetic_word_matches (m : BitVec 4) (j : BitVec 5) (dst : Dest) :
    encodeAR m j dst &&& 0x10F8 = j.setWidth 13 <<< 3 := by
  apply BitVec.eq_of_getLsbD_eq
  intro i hi
  have h : (encodeAR m j dst).getLsbD i =
      if i < 3 then dst.code.getLsbD i else if i - 3 < 5 then j.getLsbD (i - 3)
        else if i - 3 - 5 < 4 then m.getLsbD (i - 3 - 5) else (0#1).getLsbD (i - 3 - 5 - 4) := by
    have h0 : (encodeAR m j dst).getLsbD i = (0#1 ++ m ++ j ++ dst.code).getLsbD i := rfl
    rw [h0, BitVec.getLsbD_append, BitVec.getLsbD_append, BitVec.getLsbD_append]
  rw [BitVec.getLsbD_and, h]
  interval_cases i <;> simp

theorem br (t : BitVec 12) : Statement (.br t) := fun _ => branch_word_matches t

theorem tfa (b : BitVec 4) : Statement (.tfa b) := fun _ => by
  revert b; decide

theorem sfa (b : BitVec 4) : Statement (.sfa b) := fun _ => by
  revert b; decide

theorem zfa (b : BitVec 4) : Statement (.zfa b) := fun _ => by
  revert b; decide

theorem ifa (b : BitVec 4) : Statement (.ifa b) := fun _ => by
  revert b; decide

theorem xfab (b : BitVec 4) : Statement (.xfab b) := fun _ => by
  revert b; decide

theorem skr (b : BitVec 4) : Statement (.skr b) := fun _ => by
  revert b; decide

theorem cfab (b : BitVec 4) : Statement (.cfab b) := fun _ => by
  revert b; decide

theorem r5fa (b : BitVec 4) : Statement (.r5fa b) := fun _ => by
  revert b; decide

theorem tfb (b : BitVec 4) : Statement (.tfb b) := fun _ => by
  revert b; decide

theorem sfb (b : BitVec 4) : Statement (.sfb b) := fun _ => by
  revert b; decide

theorem zfb (b : BitVec 4) : Statement (.zfb b) := fun _ => by
  revert b; decide

theorem ifb (b : BitVec 4) : Statement (.ifb b) := fun _ => by
  revert b; decide

theorem frsv (b : BitVec 4) : Statement (.frsv b) := fun _ => by
  revert b; decide

theorem zkr (b : BitVec 4) : Statement (.zkr b) := fun _ => by
  revert b; decide

theorem cfba (b : BitVec 4) : Statement (.cfba b) := fun _ => by
  revert b; decide

theorem r5fb (b : BitVec 4) : Statement (.r5fb b) := fun _ => by
  revert b; decide

theorem kscan (mask : KeyRow) : Statement (.kscan mask) := fun _ => by
  revert mask; decide

theorem ktest (mask : KeyRow) : Statement (.ktest mask) := fun _ => by
  revert mask; decide

theorem waitd (b : BitVec 4) : Statement (.waitd b) := fun _ => by
  revert b; decide

theorem clridle (b : BitVec 4) : Statement (.clridle b) := fun _ => by
  revert b; decide

theorem clrfa (b : BitVec 4) : Statement (.clrfa b) := fun _ => by
  revert b; decide

theorem waitbusy (b : BitVec 4) : Statement (.waitbusy b) := fun _ => by
  revert b; decide

theorem inckr (b : BitVec 4) : Statement (.inckr b) := fun _ => by
  revert b; decide

theorem tkr (b : BitVec 4) : Statement (.tkr b) := fun _ => by
  revert b; decide

theorem far5 (x : BitVec 3) : Statement (.far5 x) := fun _ => by
  revert x; decide

theorem fbr5 (x : BitVec 3) : Statement (.fbr5 x) := fun _ => by
  revert x; decide

theorem ldr5 (b : BitVec 4) : Statement (.ldr5 b) := fun _ => by
  revert b; decide

theorem krr5 (x : BitVec 3) : Statement (.krr5 x) := fun _ => by
  revert x; decide

theorem r5kr (x : BitVec 3) : Statement (.r5kr x) := fun _ => by
  revert x; decide

theorem setidle (b : BitVec 4) : Statement (.setidle b) := fun _ => by
  revert b; decide

theorem clrfb (b : BitVec 4) : Statement (.clrfb b) := fun _ => by
  revert b; decide

theorem tbusy (b : BitVec 4) : Statement (.tbusy b) := fun _ => by
  revert b; decide

theorem extkr (b : BitVec 4) : Statement (.extkr b) := fun _ => by
  revert b; decide

theorem xkrsr (b : BitVec 4) : Statement (.xkrsr b) := fun _ => by
  revert b; decide

theorem wrsv14 (b : BitVec 4) : Statement (.wrsv14 b) := fun _ => by
  revert b; decide

theorem wrsv15 (b : BitVec 4) : Statement (.wrsv15 b) := fun _ => by
  revert b; decide

theorem addAK (m : BitVec 4) (dst : Dest) : Statement (.addAK m dst) := fun _ => arithmetic_word_matches m _ dst

theorem subAK (m : BitVec 4) (dst : Dest) : Statement (.subAK m dst) := fun _ => arithmetic_word_matches m _ dst

theorem add0B (m : BitVec 4) (dst : Dest) : Statement (.add0B m dst) := fun _ => arithmetic_word_matches m _ dst

theorem sub0B (m : BitVec 4) (dst : Dest) : Statement (.sub0B m dst) := fun _ => arithmetic_word_matches m _ dst

theorem addCK (m : BitVec 4) (dst : Dest) : Statement (.addCK m dst) := fun _ => arithmetic_word_matches m _ dst

theorem subCK (m : BitVec 4) (dst : Dest) : Statement (.subCK m dst) := fun _ => arithmetic_word_matches m _ dst

theorem add0D (m : BitVec 4) (dst : Dest) : Statement (.add0D m dst) := fun _ => arithmetic_word_matches m _ dst

theorem sub0D (m : BitVec 4) (dst : Dest) : Statement (.sub0D m dst) := fun _ => arithmetic_word_matches m _ dst

theorem shlA (m : BitVec 4) (dst : Dest) : Statement (.shlA m dst) := fun _ => arithmetic_word_matches m _ dst

theorem shrA (m : BitVec 4) (dst : Dest) : Statement (.shrA m dst) := fun _ => arithmetic_word_matches m _ dst

theorem shlB (m : BitVec 4) (dst : Dest) : Statement (.shlB m dst) := fun _ => arithmetic_word_matches m _ dst

theorem shrB (m : BitVec 4) (dst : Dest) : Statement (.shrB m dst) := fun _ => arithmetic_word_matches m _ dst

theorem shlC (m : BitVec 4) (dst : Dest) : Statement (.shlC m dst) := fun _ => arithmetic_word_matches m _ dst

theorem shrC (m : BitVec 4) (dst : Dest) : Statement (.shrC m dst) := fun _ => arithmetic_word_matches m _ dst

theorem shlD (m : BitVec 4) (dst : Dest) : Statement (.shlD m dst) := fun _ => arithmetic_word_matches m _ dst

theorem shrD (m : BitVec 4) (dst : Dest) : Statement (.shrD m dst) := fun _ => arithmetic_word_matches m _ dst

theorem addAB (m : BitVec 4) (dst : Dest) : Statement (.addAB m dst) := fun _ => arithmetic_word_matches m _ dst

theorem subAB (m : BitVec 4) (dst : Dest) : Statement (.subAB m dst) := fun _ => arithmetic_word_matches m _ dst

theorem addCB (m : BitVec 4) (dst : Dest) : Statement (.addCB m dst) := fun _ => arithmetic_word_matches m _ dst

theorem subCB (m : BitVec 4) (dst : Dest) : Statement (.subCB m dst) := fun _ => arithmetic_word_matches m _ dst

theorem addCD (m : BitVec 4) (dst : Dest) : Statement (.addCD m dst) := fun _ => arithmetic_word_matches m _ dst

theorem subCD (m : BitVec 4) (dst : Dest) : Statement (.subCD m dst) := fun _ => arithmetic_word_matches m _ dst

theorem addAD (m : BitVec 4) (dst : Dest) : Statement (.addAD m dst) := fun _ => arithmetic_word_matches m _ dst

theorem subAD (m : BitVec 4) (dst : Dest) : Statement (.subAD m dst) := fun _ => arithmetic_word_matches m _ dst

theorem addAIO (m : BitVec 4) (dst : Dest) : Statement (.addAIO m dst) := fun _ => arithmetic_word_matches m _ dst

theorem subAIO (m : BitVec 4) (dst : Dest) : Statement (.subAIO m dst) := fun _ => arithmetic_word_matches m _ dst

theorem add0K (m : BitVec 4) (dst : Dest) : Statement (.add0K m dst) := fun _ => arithmetic_word_matches m _ dst

theorem sub0K (m : BitVec 4) (dst : Dest) : Statement (.sub0K m dst) := fun _ => arithmetic_word_matches m _ dst

theorem addCIO (m : BitVec 4) (dst : Dest) : Statement (.addCIO m dst) := fun _ => arithmetic_word_matches m _ dst

theorem subCIO (m : BitVec 4) (dst : Dest) : Statement (.subCIO m dst) := fun _ => arithmetic_word_matches m _ dst

theorem addR5 (m : BitVec 4) (dst : Dest) : Statement (.addR5 m dst) := fun _ => arithmetic_word_matches m _ dst

theorem subR5 (m : BitVec 4) (dst : Dest) : Statement (.subR5 m dst) := fun _ => arithmetic_word_matches m _ dst

end Sys2Proof.Laws.OpcodeRow
end

