-- ==== Sys2Proof/Laws/Step.lean ====
section
/-!
SUPPORT. One lemma per operation of the waiting instructions, the arithmetic dispatch, the coordinator and the
sequencer: all it can do, so that later proofs cite it instead of unfolding it.
-/
namespace Sys2Proof.Machine

open Sys2Proof

/-- The bus with the fields the other chips own replaced; the fields the sequencer owns, and idle, are kept. -/
def Bus.withOwned (b o : Bus) : Bus :=
  { o with dstate := b.dstate, sstate := b.sstate, write := b.write, idle := b.idle }

theorem apply_owned (w : BusWrite) (b : Bus) : w.apply b = b.withOwned (w.apply b) := by
  cases w <;> rfl

theorem applyWrites_owned (ws : List BusWrite) (b : Bus) : applyWrites ws b = b.withOwned (applyWrites ws b) := by
  induction ws generalizing b with
  | nil => rfl
  | cons w ws ih =>
    have h1 : applyWrites (w :: ws) b = applyWrites ws (w.apply b) := rfl
    rw [h1, ih (w.apply b), apply_owned w b]
    rfl

@[simp] theorem applyWrites_nil (b : Bus) : applyWrites [] b = b := rfl

@[simp] theorem applyWrites_cons (w : BusWrite) (ws : List BusWrite) (b : Bus) :
    applyWrites (w :: ws) b = applyWrites ws (w.apply b) := rfl

theorem applyWrites_append (us ws : List BusWrite) (b : Bus) :
    applyWrites (us ++ ws) b = applyWrites ws (applyWrites us b) := by
  simp [applyWrites, List.foldl_append]

/-- Writes to different fields commute (20_memory.md R88). -/
theorem apply_comm (v w : BusWrite) (b : Bus) (h : v.field ≠ w.field) :
    w.apply (v.apply b) = v.apply (w.apply b) := by
  cases v <;> cases w <;> first | rfl | exact absurd rfl h

theorem applyWrites_apply_comm (ws : List BusWrite) (v : BusWrite) (b : Bus) (h : ∀ w ∈ ws, v.field ≠ w.field) :
    applyWrites ws (v.apply b) = v.apply (applyWrites ws b) := by
  induction ws generalizing b with
  | nil => rfl
  | cons w ws ih =>
    rw [applyWrites_cons, applyWrites_cons, apply_comm v w b (h w (by simp))]
    exact ih (w.apply b) fun u hu => h u (by simp [hu])

/-- Two chips that write no field in common may write in either order (20_memory.md R88). -/
theorem applyWrites_comm (us ws : List BusWrite) (b : Bus) (h : ∀ u ∈ us, ∀ w ∈ ws, u.field ≠ w.field) :
    applyWrites ws (applyWrites us b) = applyWrites us (applyWrites ws b) := by
  induction us generalizing b with
  | nil => rfl
  | cons u us ih =>
    rw [applyWrites_cons, applyWrites_cons, ih (u.apply b) fun v hv => h v (by simp [hv]),
      applyWrites_apply_comm ws u b (h u (by simp))]

/-- EXT is kept where no write is made to it. -/
theorem applyWrites_ext (ws : List BusWrite) (b : Bus) (h : ∀ w ∈ ws, w.field ≠ .ext) :
    (applyWrites ws b).ext = b.ext := by
  induction ws generalizing b with
  | nil => rfl
  | cons w ws ih =>
    rw [applyWrites_cons, ih (w.apply b) fun v hv => h v (by simp [hv])]
    have hw := h w (by simp)
    cases w <;> first | rfl | exact absurd rfl hw

/-- All the other chips' writes can do: in a write phase, change the bus fields they own; in a read phase, nothing. -/
theorem chipWrites_spec (ws : List BusWrite) (s : State) :
    ∃ b : Bus, chipWrites ws s = { s with bus := s.bus.withOwned b } ∧ (s.bus.write = false → b = s.bus) := by
  unfold chipWrites
  by_cases h : s.bus.write = true
  · exact ⟨applyWrites ws s.bus, by rw [if_pos h, ← applyWrites_owned], by simp [h]⟩
  · exact ⟨s.bus, by rw [if_neg h]; rfl, fun _ => rfl⟩

/-- All that happens before the core's invocation in a phase. -/
theorem beforeCore_spec (s : State) :
    ∃ b : Bus, beforeCore s =
        { s with
          bus := s.bus.withOwned b, busy := s.busy || s.frame.setBusy
          stopReq := (if s.bus.write = true then false else s.stopReq) || s.othersStop
          env := s.env.tail } ∧
      (s.bus.write = false → b = s.bus) := by
  unfold beforeCore
  obtain ⟨b, hb, hr⟩ := chipWrites_spec s.writesBefore
    { s with
      busy := s.busy || s.frame.setBusy
      stopReq := (if s.bus.write then false else s.stopReq) || s.othersStop
      env := s.env.tail }
  exact ⟨b, hb, hr⟩

/-- The sequencer's move, case by case. -/
theorem advance_cases (s : State) :
    (s.bus.write = true ∧ advance s = { s with bus := { s.bus with write := false } }) ∨
    (s.bus.write = false ∧ s.stopReq = true ∧ advance s = { s with ended := true }) ∨
    (s.bus.write = false ∧ s.stopReq = false ∧ s.bus.sstate ≠ 15 ∧
      advance s = { s with bus := { s.bus with sstate := s.bus.sstate + 1, write := true } }) ∨
    (s.bus.write = false ∧ s.stopReq = false ∧ s.bus.sstate = 15 ∧
      advance s =
        { s with
          bus := { s.bus with
            ext := 0, irg := 0, io := zeroDigits
            dstate := nextDstate s.bus.dstate, sstate := 0, write := true } }) := by
  unfold advance
  cases hw : s.bus.write
  · cases hs : s.stopReq
    · by_cases h15 : s.bus.sstate = 15
      · exact .inr (.inr (.inr ⟨rfl, rfl, h15, by simp [h15]⟩))
      · exact .inr (.inr (.inl ⟨rfl, rfl, h15, by rw [if_neg (by decide), if_neg (by decide), if_neg h15]⟩))
    · exact .inr (.inl ⟨rfl, rfl, by simp⟩)
  · exact .inl ⟨rfl, by simp⟩

/-- The phase of a run under way. -/
theorem runPhase_running (s : State) (h : s.ended = false) :
    runPhase s = onNext (coreProcess (beforeCore s)) fun t => advance (chipWrites s.writesAfter t) := by
  simp [runPhase, h]

/-- The core's process function in boot mode. -/
theorem coreProcess_boot (s : State) (h : 0 < s.resetCnt) :
    coreProcess s = .next (bootPhase (publishIdle s)) := by
  simp [coreProcess, h]

/-- The core's process function in normal mode. -/
theorem coreProcess_normal (s : State) (h : s.resetCnt = 0) : coreProcess s = normalPhase (publishIdle s) := by
  simp [coreProcess, h]

/-- Everything the publication of IDLE can do. -/
theorem publishIdle_eq (s : State) :
    publishIdle s = { s with bus := { s.bus with idle := if s.bus.write = true then s.idle else s.bus.idle } } := by
  unfold publishIdle
  by_cases h : s.bus.write = true
  · rw [if_pos h, if_pos h]
  · rw [if_neg h, if_neg h]

/-- Everything the publications of IO and KR can do. -/
theorem publish_eq (s : State) :
    publishKr (publishIo s) =
      { s with
        ioValid := false
        bus := { s.bus with
          io := if s.ioValid = true then s.ioOut else s.bus.io
          ext := if isExtkr s.ilOp = true then s.bus.ext else rotr16 s.kr } } := by
  have hio : publishIo s =
      { s with ioValid := false, bus := { s.bus with io := if s.ioValid = true then s.ioOut else s.bus.io } } := by
    unfold publishIo
    by_cases h : s.ioValid = true
    · rw [if_pos h, if_pos h]
    · rw [if_neg h, if_neg h, ← Bool.eq_false_iff.mpr h]
  rw [hio]
  unfold publishKr
  by_cases h : isExtkr s.ilOp = true
  · rw [if_pos h, if_pos h]
  · rw [if_neg h, if_neg h]

/-- S0 write up to the publications: an early word is executed, of a late word nothing is. -/
theorem s0WriteExecute_cases (s : State) :
    (isLate s.cfg.operandTable (decode s.ilOp) = true ∧ s0WriteExecute s = .next (s0WriteEnter s)) ∨
    (isLate s.cfg.operandTable (decode s.ilOp) = false ∧
      s0WriteExecute s = exec (decode s.ilOp) (s0WriteEnter s)) := by
  cases h : isLate s.cfg.operandTable (decode s.ilOp)
  · exact .inr ⟨rfl, by simp [s0WriteExecute, runDecoder, s0WriteEnter, h]⟩
  · exact .inl ⟨rfl, by simp [s0WriteExecute, s0WriteEnter, h]⟩

/-- WAITD after the re-arm: all it can do. -/
theorem waitDigit_spec (b : BitVec 4) (s : State) :
    (s.digit = b ∧ waitDigit b s = (s, .completed)) ∨
    (s.digit ≠ b ∧ waitDigit b s = ({ s with hold := true }, .needsHold)) := by
  unfold waitDigit
  by_cases h : s.digit = b <;> simp [h]

/-- KSCAN after the re-arm: all it can do. -/
theorem fullScan_spec (mask : KeyRow) (s : State) :
    (s.keyHit mask = true ∧
      fullScan mask s = ({ s with cond := false, kr := keyCode s.digit (s.keyView mask) }, .completed)) ∨
    (s.keyHit mask = false ∧ s.digit ≠ 0 ∧ fullScan mask s = ({ s with hold := true }, .needsHold)) ∨
    (s.keyHit mask = false ∧ s.digit = 0 ∧ fullScan mask s = (s, .completed)) := by
  unfold fullScan
  cases hk : s.keyHit mask
  · by_cases hd : s.digit = 0
    · exact .inr (.inr ⟨rfl, hd, by simp [hd]⟩)
    · exact .inr (.inl ⟨rfl, hd, by rw [if_neg (by decide), if_pos hd]⟩)
  · exact .inl ⟨rfl, by simp⟩

/-- The operand vectors an arithmetic instruction's dispatch passes to the steps around the pass. -/
theorem arith_eq (k : Kind) (x y : Source) (mi : BitVec 4) (dst : Dest) (s : State) :
    arith k x y mi dst s =
      arithOn k (match x with | .reg r => s.reg r | _ => zeroDigits)
        (match x with | .r5 => s.source (s.mask mi) .r5 | _ => s.source (s.mask mi) y) (s.mask mi) dst s := by
  cases x <;> rfl

/-- The temporary T of a mask with a window. -/
theorem r5Vector_eq_tempT (m : MaskDesc) (s : State) (h : m.HasWindow) : r5Vector m s.r5 = tempT m s := by
  refine digits_ext _ _ fun i hi => ?_
  rw [r5Vector, if_pos h, digitAt_setDigit, digitAt_of_lt (tempT m s) i hi]
  have hm : (⟨i, hi⟩ = m.start) ↔ i = m.start.val := Fin.ext_iff
  by_cases hs : i = m.start.val
  · simp [tempT, hs]
  · simp [tempT, hm, hs, Ne.symm hs]

/-- The dispatch of an operand entry under a mask with a window: the pass with the kind and the operands the
machine's operand table gives. -/
theorem arithEntry_eq (j : Fin 32) (mi : BitVec 4) (dst : Dest) (s : State) (h : (s.mask mi).HasWindow) :
    arithEntry j mi dst s =
      arithOn (entryKind j s) (entryX j s) (entryY j (s.mask mi) s) (s.mask mi) dst s := by
  unfold arithEntry
  rw [arith_eq]
  unfold entryKind entryX entryY State.source
  rw [r5Vector_eq_tempT _ _ h]
  cases s.cfg.operandTable[j].x <;> cases s.cfg.operandTable[j].y <;> rfl

/-- An arithmetic instruction is late exactly where its operand entry takes IO (48_coordinator.md R344). -/
theorem isLate_arInstr (t : Vector OperandEntry 32) (j : Fin 32) (mi : BitVec 4) (dst : Dest) :
    isLate t (arInstr j mi dst) = t[j].io := by
  fin_cases j <;> rfl

/-- Every arithmetic instruction is the dispatch of its own operand entry, after the re-arm. -/
theorem exec_arInstr (j : Fin 32) (mi : BitVec 4) (dst : Dest) (s : State) :
    exec (arInstr j mi dst) s = .next (arithEntry j mi dst (entered s)) := by
  rw [← rearm_eq_entered]
  fin_cases j <;> rfl

/-- A register destination: the dispatch is the pass alone. -/
theorem arithOn_reg (k : Kind) (X Y : Digits) (m : MaskDesc) (dst : Dest) (q : Reg) (s : State)
    (h : targetOf dst = .reg q) : arithOn k X Y m dst s = alu k X Y (.reg q) m s := by
  cases dst <;> simp_all [arithOn, targetOf, exchangedBy]

/-- The IO destination: IOOUT cleared, the pass, IOVALID set. -/
theorem arithOn_io (k : Kind) (X Y : Digits) (m : MaskDesc) (s : State) :
    arithOn k X Y m .io s = { alu k X Y .ioOut m { s with ioOut := zeroDigits } with ioValid := true } := rfl

/-- An exchange code: the pass without destination, then the exchange. -/
theorem arithOn_exchange (k : Kind) (X Y : Digits) (m : MaskDesc) (dst : Dest) (p q : Reg) (s : State)
    (h : exchangedBy dst = some (p, q)) :
    arithOn k X Y m dst s = exchange p q m (alu k X Y .none m s) := by
  cases dst <;> simp_all [arithOn, targetOf, exchangedBy]

end Sys2Proof.Machine
end

