-- ==== Sys2Proof/Tests/Slice0.lean ====
section
/-!
SUPPORT. Tests. The words and the expected results are the spec's: the worked examples of 42 to 45 and the vectors of
95_test_vectors.md, named by their numbers there. Then one witness for the hypotheses of every obligation that has
some, clause by clause.
-/
namespace Sys2Proof.Tests

open Sys2Proof Sys2Proof.Machine

-- One test after another: many at once, each with a thread of its own, cost the checker's memory.
set_option Elab.async false

/-! The check of well-formedness refuses the mask indices of the other classes -/

theorem test_wf_refuses_flag_mask : Instr.wf (.addAK 0 .a) = false := by decide

theorem test_wf_refuses_keyboard_mask : Instr.wf (.shlD 8 .xcd) = false := by decide

theorem test_wf_refuses_wait_mask : Instr.wf (.subR5 10 .io) = false := by decide

theorem test_wf_accepts_usable_masks :
    ∀ m : BitVec 4, m ≠ 0 → m ≠ 8 → m ≠ 10 → Instr.wf (.addAB m .xae) = true := by decide

/-! Decoding: a word of the spec for every constructor -/

theorem test_decode_branch :
    decode 0x1ABC#13 = .br 0xABC ∧ decode 0x1000#13 = .br 0 ∧ decode 0x1FFF#13 = .br 0xFFF := by decide

theorem test_decode_flag :
    decode 0x00F0#13 = .tfa 15 ∧ decode 0x0031#13 = .sfa 3 ∧ decode 0x0032#13 = .zfa 3 ∧
    decode 0x0073#13 = .ifa 7 ∧ decode 0x0024#13 = .xfab 2 ∧ decode 0x0015#13 = .skr 1 ∧
    decode 0x0096#13 = .cfab 9 ∧ decode 0x0007#13 = .r5fa 0 ∧ decode 0x0048#13 = .tfb 4 ∧
    decode 0x0009#13 = .sfb 0 ∧ decode 0x00FA#13 = .zfb 15 ∧ decode 0x00FB#13 = .ifb 15 ∧
    decode 0x000C#13 = .frsv 0 ∧ decode 0x008D#13 = .zkr 8 ∧ decode 0x001E#13 = .cfba 1 ∧
    decode 0x00FF#13 = .r5fb 15 := by decide

theorem test_decode_keyboard :
    decode 0x08FF#13 = .kscan 0x7F ∧ decode 0x080F#13 = .kscan 0x07 ∧ decode 0x0808#13 = .kscan 0 ∧
    decode 0x0881#13 = .ktest 0x41 ∧ decode 0x08F7#13 = .ktest 0x7F := by decide

theorem test_decode_wait :
    decode 0x0A50#13 = .waitd 5 ∧ decode 0x0A01#13 = .clridle 0 ∧ decode 0x0A02#13 = .clrfa 0 ∧
    decode 0x0A03#13 = .waitbusy 0 ∧ decode 0x0A04#13 = .inckr 0 ∧ decode 0x0A85#13 = .tkr 8 ∧
    decode 0x0A06#13 = .far5 0 ∧ decode 0x0A16#13 = .fbr5 0 ∧ decode 0x0A97#13 = .ldr5 9 ∧
    decode 0x0A08#13 = .krr5 0 ∧ decode 0x0A18#13 = .r5kr 0 ∧ decode 0x0A09#13 = .setidle 0 ∧
    decode 0x0A0A#13 = .clrfb 0 ∧ decode 0x0A0B#13 = .tbusy 0 ∧ decode 0x0A0C#13 = .extkr 0 ∧
    decode 0x0A0D#13 = .xkrsr 0 ∧ decode 0x0A0E#13 = .wrsv14 0 ∧ decode 0x0AFF#13 = .wrsv15 15 := by decide

theorem test_decode_arithmetic :
    decode 0x0D00#13 = .addAK 13 .a ∧ decode 0x0D08#13 = .subAK 13 .a ∧ decode 0x0910#13 = .add0B 9 .a ∧
    decode 0x0918#13 = .sub0B 9 .a ∧ decode 0x0724#13 = .addCK 7 .c ∧ decode 0x072C#13 = .subCK 7 .c ∧
    decode 0x0934#13 = .add0D 9 .c ∧ decode 0x093C#13 = .sub0D 9 .c ∧ decode 0x0940#13 = .shlA 9 .a ∧
    decode 0x0948#13 = .shrA 9 .a ∧ decode 0x0953#13 = .shlB 9 .b ∧ decode 0x095B#13 = .shrB 9 .b ∧
    decode 0x0664#13 = .shlC 6 .c ∧ decode 0x066C#13 = .shrC 6 .c ∧ decode 0x0976#13 = .shlD 9 .d ∧
    decode 0x097E#13 = .shrD 9 .d ∧ decode 0x0980#13 = .addAB 9 .a ∧ decode 0x0988#13 = .subAB 9 .a ∧
    decode 0x0994#13 = .addCB 9 .c ∧ decode 0x099C#13 = .subCB 9 .c ∧ decode 0x09A4#13 = .addCD 9 .c ∧
    decode 0x09AC#13 = .subCD 9 .c ∧ decode 0x09B0#13 = .addAD 9 .a ∧ decode 0x09B8#13 = .subAD 9 .a ∧
    decode 0x01C0#13 = .addAIO 1 .a ∧ decode 0x01C8#13 = .subAIO 1 .a ∧ decode 0x0BD3#13 = .add0K 11 .b ∧
    decode 0x0DDB#13 = .sub0K 13 .b ∧ decode 0x01E4#13 = .addCIO 1 .c ∧ decode 0x01EC#13 = .subCIO 1 .c ∧
    decode 0x09F0#13 = .addR5 9 .a ∧ decode 0x09F8#13 = .subR5 9 .a ∧ decode 0x098A#13 = .subAB 9 .xab ∧
    decode 0x0901#13 = .addAK 9 .io ∧ decode 0x06A5#13 = .addCD 6 .xcd ∧ decode 0x01D7#13 = .add0K 1 .xae := by
  decide

theorem test_decode_rejects_a_longer_number : decodeNat 0x2000 = .error .notOneWord := by rfl

theorem test_table_word : decodeTableWord 16 0x0A97 = some (.ldr5 9) := by decide

/-! Single instructions -/

/-- The common start state of the worked examples of 45_arithmetic.md (section 3), E as in R332. -/
def start : State :=
  { State.reset with
    regA := digitsOfNat 0x1234567890123456, regB := digitsOfNat 0x111000, regC := digitsOfNat 0x9999999999999999
    regD := digitsOfNat 0x5000, regE := digitsOfNat 0x42, r5 := 7, cond := true }

/-- The state after the decoder has run a word. -/
def after (w : OpWord) (s : State) : Option State :=
  match exec (decode w) s with
  | .next t => some t
  | .fault _ => none
  | .refused _ => none

/-- COND armed, everything else as after reset: the start of the vectors of Part 4. -/
def base : State := { State.reset with cond := true }

/-- Vector B1. -/
theorem test_b1_br :
    after 0x1ABC#13 { base with cond := false } = some { base with cond := false, jump := true } := by
  decide

/-- Vector B2. -/
theorem test_b2_br_in_a_chain :
    after 0x1000#13 { base with cond := false, jump := true } = some { base with cond := false, jump := true } := by
  decide

/-- Vector B3. -/
theorem test_b3_rearm_by_frsv :
    after 0x000C#13 { base with cond := false, jump := true } = some { base with cond := true, jump := false } := by
  decide

/-- Vector B4. -/
theorem test_b4_rearm_then_test :
    after 0x0000#13 { base with cond := false, jump := true, fA := 1 } = some { base with cond := false, jump := false, fA := 1 } := by
  decide

/-- Vector F1. -/
theorem test_f1_tfa : after 0x0000#13 { base with fA := 1 } = some { base with fA := 1, cond := false } := by decide

/-- Vector F2. -/
theorem test_f2_tfa : after 0x0000#13 { base with fA := 0xFFFE } = some { base with fA := 0xFFFE } := by decide

/-- Vector F4. -/
theorem test_f4_sfa : after 0x0031#13 base = some { base with fA := 8 } := by decide

/-- Vector F5. -/
theorem test_f5_zfa : after 0x0032#13 { base with fA := 0xFFFF } = some { base with fA := 0xFFF7 } := by decide

/-- Vector F6. -/
theorem test_f6_ifa : after 0x0073#13 { base with fA := 0x80 } = some { base with fA := 0 } := by decide

/-- Vector F7. -/
theorem test_f7_xfab :
    after 0x0024#13 { base with fA := 4, fB := 0 } = some { base with fA := 0, fB := 4 } := by
  decide

/-- Vector F8. -/
theorem test_f8_skr : after 0x0015#13 { base with kr := 0x120 } = some { base with kr := 0x122 } := by decide

/-- Vector F9. -/
theorem test_f9_cfab :
    after 0x0096#13 { base with fA := 0x200, fB := 0 } = some { base with fA := 0x200, fB := 0x200 } := by
  decide

/-- Vector F10. -/
theorem test_f10_cfab :
    after 0x0096#13 { base with fA := 0, fB := 0xFFFF } = some { base with fA := 0, fB := 0xFDFF } := by
  decide

/-- Vector F11. -/
theorem test_f11_r5fa :
    after 0x0007#13 { base with fA := 0x8001, r5 := 0xA } = some { base with fA := 0x8015, r5 := 0xA } := by
  decide

/-- Vector F12. -/
theorem test_f12_tfb :
    after 0x0048#13 { base with fB := 0x10 } = some { base with fB := 0x10, cond := false } := by
  decide

/-- Vector F13. -/
theorem test_f13_sfb : after 0x0009#13 base = some { base with fB := 1 } := by decide

/-- Vector F14. -/
theorem test_f14_zfb : after 0x00FA#13 { base with fB := 0x8001 } = some { base with fB := 1 } := by decide

/-- Vector F15. -/
theorem test_f15_ifb : after 0x000B#13 base = some { base with fB := 1 } := by decide

/-- Vector F16. -/
theorem test_f16_frsv :
    after 0x000C#13 { base with fA := 0x1234, fB := 0x5678, kr := 0x9ABC } = some { base with fA := 0x1234, fB := 0x5678, kr := 0x9ABC } := by
  decide

/-- Vector F17. -/
theorem test_f17_zkr : after 0x008D#13 { base with kr := 0x120 } = some { base with kr := 0x20 } := by decide

/-- Vector F18. -/
theorem test_f18_cfba :
    after 0x001E#13 { base with fA := 0, fB := 2 } = some { base with fA := 2, fB := 2 } := by
  decide

/-- Vector F19. -/
theorem test_f19_r5fb : after 0x00FF#13 { base with fB := 0xFFFF } = some { base with fB := 0xFFE1 } := by decide

/-- Vector K1. -/
theorem test_k1_kscan_hit :
    after 0x08FF#13 { base with digit := 5, keySnap := 8 } = some { base with digit := 5, keySnap := 8, cond := false, kr := 0x530 } := by
  decide

/-- Vector K2. -/
theorem test_k2_kscan_two_keys :
    after 0x08FF#13 { base with digit := 5, keySnap := 9 } = some { base with digit := 5, keySnap := 9, hold := true } := by
  decide

/-- Vector K10. -/
theorem test_k10_ktest_hit :
    after 0x0881#13 { base with keySnap := 0x40 } = some { base with keySnap := 0x40, cond := false } := by
  decide

/-- Vector K13. -/
theorem test_k13_ktest_two_keys :
    after 0x08F7#13 { base with keySnap := 3 } = some { base with keySnap := 3 } := by
  decide

/-- Vector W1. -/
theorem test_w1_waitd : after 0x0A50#13 { base with digit := 5 } = some { base with digit := 5 } := by decide

/-- Vector W2. -/
theorem test_w2_waitd :
    after 0x0A50#13 { base with digit := 6 } = some { base with digit := 6, hold := true } := by
  decide

/-- Vector W3. -/
theorem test_w3_clridle : after 0x0A01#13 { base with idle := true } = some { base with idle := false } := by decide

/-- Vector W4. -/
theorem test_w4_clrfa :
    after 0x0A02#13 { base with fA := 0xFFFF, fB := 1 } = some { base with fA := 0, fB := 1 } := by
  decide

/-- Vector W5. -/
theorem test_w5_waitbusy : after 0x0A03#13 { base with busy := true } = some { base with busy := true } := by decide

/-- Vector W8. -/
theorem test_w8_inckr_wraps : after 0x0A04#13 { base with kr := 0xFFF7 } = some { base with kr := 6 } := by decide

/-- Vector W6. -/
theorem test_w6_inckr : after 0x0A04#13 { base with kr := 0x120 } = some { base with kr := 0x130 } := by decide

/-- Vector W10. -/
theorem test_w10_tkr :
    after 0x0A85#13 { base with kr := 0x100 } = some { base with kr := 0x100, cond := false } := by
  decide

/-- Vector W11. -/
theorem test_w11_tkr : after 0x0A85#13 { base with kr := 0xFEFF } = some { base with kr := 0xFEFF } := by decide

/-- Vector W12. -/
theorem test_w12_far5 :
    after 0x0A06#13 { base with fA := 0x14, fB := 0x1E } = some { base with fA := 0x14, fB := 0x1E, r5 := 0xA } := by
  decide

/-- Vector W13. -/
theorem test_w13_fbr5 :
    after 0x0A16#13 { base with fA := 0x14, fB := 0x1E } = some { base with fA := 0x14, fB := 0x1E, r5 := 0xF } := by
  decide

/-- Vector W14. -/
theorem test_w14_ldr5 : after 0x0A97#13 base = some { base with r5 := 9 } := by decide

/-- Vector W15. -/
theorem test_w15_krr5 :
    after 0x0A08#13 { base with kr := 0x1234 } = some { base with kr := 0x1234, r5 := 3 } := by
  decide

/-- Vector W16. -/
theorem test_w16_r5kr :
    after 0x0A18#13 { base with kr := 0x1234, r5 := 0xF } = some { base with kr := 0x12F4, r5 := 0xF } := by
  decide

/-- Vector W17. -/
theorem test_w17_setidle : after 0x0A09#13 base = some { base with idle := true } := by decide

/-- Vector W18. -/
theorem test_w18_clrfb :
    after 0x0A0A#13 { base with fB := 0xFFFF, fA := 1 } = some { base with fB := 0, fA := 1 } := by
  decide

/-- Vector W19. -/
theorem test_w19_tbusy :
    after 0x0A0B#13 { base with busy := true } = some { base with busy := false, cond := false } := by
  decide

/-- Vector W20. -/
theorem test_w20_tbusy_keys :
    after 0x0A0B#13 { base with keySnap := 0x11 } = some { base with keySnap := 0x11, cond := false } := by
  decide

/-- Vector W22. -/
theorem test_w22_extkr :
    (after 0x0A0C#13 { base with kr := 0xFFFF, bus := { base.bus with ext := 0x0918 } }).map (·.kr) = some 0x1230 := by
  decide

/-- Vector W24. -/
theorem test_w24_xkrsr :
    after 0x0A0D#13 { base with kr := 0x1234, sr := 0xABCD } = some { base with kr := 0xABCD, sr := 0x1234 } := by
  decide

/-- Vector W25. -/
theorem test_w25_wrsv14 : after 0x0A0E#13 { base with kr := 0x1234 } = some { base with kr := 0x1234 } := by decide

/-- Vector W26. -/
theorem test_w26_wrsv15 : after 0x0AFF#13 { base with kr := 0x1234 } = some { base with kr := 0x1234 } := by decide

/-- What an arithmetic instruction leaves of its destination, R5 and COND, from the start state. -/
def arith3 (w : OpWord) (s : State) (r : Reg) : Option (Digits × Digit × Bool) :=
  (after w s).map fun t => (t.reg r, t.r5, t.cond)

/-- Worked examples of R300, R301, R304, R305, R326, R327. -/
theorem test_arith_add_sub_constant :
    arith3 0x0D00#13 start .a = some (digitsOfNat 0x1234567890124456, 4, true) ∧
    arith3 0x0D08#13 start .a = some (digitsOfNat 0x1234567890122456, 2, true) ∧
    arith3 0x0724#13 start .c = some (digitsOfNat 0x9999999999999009, 0, false) ∧
    arith3 0x072C#13 start .c = some (digitsOfNat 0x9999999999999989, 8, true) ∧
    arith3 0x0BD3#13 start .b = some (digitsOfNat 0x115000, 5, true) ∧
    arith3 0x0DDB#13 start .b = some (digitsOfNat 0x119000, 9, false) := by
  decide +kernel

/-- Worked examples of R302, R303, R306, R307. -/
theorem test_arith_add_sub_copy :
    arith3 0x0910#13 start .a = some (digitsOfNat 0x111456, 1, true) ∧
    arith3 0x0918#13 start .a = some (digitsOfNat 0x9999999999889456, 9, false) ∧
    arith3 0x0934#13 start .c = some (digitsOfNat 0x5999, 5, true) ∧
    arith3 0x093C#13 start .c = some (digitsOfNat 0x9999999999995999, 5, false) := by
  decide +kernel

/-- Worked examples of R308, R310, R312, R314. -/
theorem test_arith_shift_left :
    arith3 0x0940#13 start .a = some (digitsOfNat 0x2345678901230456, 3, true) ∧
    arith3 0x0953#13 start .b = some (digitsOfNat 0x1110000, 1, true) ∧
    arith3 0x0664#13 start .c = some (digitsOfNat 0x9999999999999909, 9, true) ∧
    arith3 0x0976#13 start .d = some (digitsOfNat 0x50000, 5, true) := by
  decide +kernel

/-- Worked examples of R309, R311, R313, R315. -/
theorem test_arith_shift_right :
    arith3 0x0948#13 start .a = some (digitsOfNat 0x123456789012456, 3, true) ∧
    arith3 0x095B#13 start .b = some (digitsOfNat 0x11000, 1, true) ∧
    arith3 0x066C#13 start .c = some (digitsOfNat 0x9999999999999099, 9, true) ∧
    arith3 0x097E#13 start .d = some (digitsOfNat 0x0, 5, true) := by
  decide +kernel

/-- Worked examples of R316, R317, R318, R319. -/
theorem test_arith_two_registers_ab_cb :
    arith3 0x0980#13 start .a = some (digitsOfNat 0x1234567890234456, 4, true) ∧
    arith3 0x0988#13 start .a = some (digitsOfNat 0x1234567890012456, 2, true) ∧
    arith3 0x0994#13 start .c = some (digitsOfNat 0x110999, 0, false) ∧
    arith3 0x099C#13 start .c = some (digitsOfNat 0x9999999999888999, 8, true) := by
  decide +kernel

/-- Worked examples of R320, R321, R322, R323. -/
theorem test_arith_two_registers_cd_ad :
    arith3 0x09A4#13 start .c = some (digitsOfNat 0x4999, 4, false) ∧
    arith3 0x09AC#13 start .c = some (digitsOfNat 0x9999999999994999, 4, true) ∧
    arith3 0x09B0#13 start .a = some (digitsOfNat 0x1234567890128456, 8, true) ∧
    arith3 0x09B8#13 start .a = some (digitsOfNat 0x1234567890118456, 8, true) := by
  decide +kernel

/-- Worked examples of R324, R325, R328, R329. -/
theorem test_arith_serial_input :
    arith3 0x01C0#13 { start with sin := digitsOfNat 0x321 } .a = some (digitsOfNat 0x1234567890123777, 7, true) ∧
    arith3 0x01C8#13 { start with sin := digitsOfNat 0x321 } .a = some (digitsOfNat 0x1234567890123135, 5, true) ∧
    arith3 0x01E4#13 { start with sin := digitsOfNat 0x321 } .c = some (digitsOfNat 0x31A, 0xA, false) ∧
    arith3 0x01EC#13 { start with sin := digitsOfNat 0x321 } .c = some (digitsOfNat 0x9999999999999678, 8, true) := by
  decide +kernel

/-- Worked examples of R330, R331. -/
theorem test_arith_r5_to_adder :
    arith3 0x09F0#13 start .a = some (digitsOfNat 0x7456, 7, true) ∧
    arith3 0x09F8#13 start .a = some (digitsOfNat 0x9999999999993456, 3, false) := by
  decide +kernel

/-- The worked examples of R332: the exchange codes and IO. -/
theorem test_arith_destinations :
    (after 0x098A#13 start).map (fun t => (t.regA, t.regB, t.r5, t.cond)) =
      some (digitsOfNat 0x111456, digitsOfNat 0x1234567890123000, 2, true) ∧
    (after 0x01D7#13 start).map (fun t => (t.regA, t.regE, t.r5, t.cond)) =
      some (digitsOfNat 0x42, digitsOfNat 0x1234567890123456, 0, true) ∧
    (after 0x0901#13 start).map (fun t => (t.regA, t.ioOut, t.ioValid, t.r5)) =
      some (start.regA, digitsOfNat 0x1234567890123000, true, 3) ∧
    (after 0x06A5#13 start).map (fun t => (t.regC, t.regD, t.r5, t.cond)) =
      some (digitsOfNat 0x9999999999999009, digitsOfNat 0x5990, 9, true) := by
  decide +kernel

/-- Vector V21: IOVALID gates the serial input off. -/
theorem test_v21_serial_input_gated :
    (alu .add (digitsOfNat 0x5000) zeroDigits (.reg .a) ⟨3, 15, 3, 0⟩
      { base with regA := digitsOfNat 0x5000, sin := digitsOfNat 0x123999, ioValid := true }).regA =
        digitsOfNat 0x5000 := by
  decide +kernel

/-! Phases of the coordinator -/

/-- A state of normal mode at a phase. -/
def phaseState (ss : BitVec 4) (wr : Bool) : State :=
  { base with resetCnt := 0, bus := { base.bus with sstate := ss, write := wr } }

/-- The core's invocation, where it answers a next state. -/
def core1 (s : State) : Option State :=
  match coreProcess s with
  | .next t => some t
  | .fault _ => none
  | .refused _ => none

/-- Vector Q1. -/
theorem test_q1_s0_write :
    (core1
        { base with
          resetCnt := 0, ilOp := 0x0015, kr := 0x0120
          bus := { base.bus with dstate := 7, keyLine := 2, sstate := 0, write := true } }).map
        (fun t => (t.digit, t.keySnap, t.condL, t.late, t.kr, t.bus.ext)) =
      some (7, 2, true, false, 0x0122, 0x0091) := by
  decide

/-- Vector Q2. -/
theorem test_q2_s1_write :
    (core1 { phaseState 1 true with
        condL := true, bus := { (phaseState 1 true).bus with ext := 0x0091 } }).map (fun t => (t.bus.ext, t.condL)) =
      some (0x0093, false) := by
  decide

/-- Vectors Q4 and Q5. -/
theorem test_q4_q5_s2_read :
    (core1 { phaseState 2 false with
        kr := 0x0122, bus := { (phaseState 2 false).bus with ext := 0x0093 } }).map (·.kr) = some 0x0120 ∧
    (core1 { phaseState 2 false with
        kr := 0x0122, bus := { (phaseState 2 false).bus with ext := 0x0097 } }).map (·.kr) = some 0x0122 := by
  decide

/-- Vector Q7. -/
theorem test_q7_s15_read :
    (core1 { phaseState 15 false with
        late := true, ilOp := 0x0A0C
        bus := { (phaseState 15 false).bus with ext := 0x0918, irg := 0x0A04, fetchAddr := .addr 0x0123 } }).map
        (fun t => (t.kr, t.late, t.ilOp, t.ilAddr, t.stopReq)) =
      some (0x1230, false, 0x0A04, .addr 0x0123, false) := by
  decide

/-- Vector Q8. -/
theorem test_q8_stop :
    (core1 { phaseState 15 false with bus := { (phaseState 15 false).bus with fetchAddr := .stop } }).map
        (fun t => (t.ilOp, t.ilAddr, t.stopReq)) = some (0, .stop, true) := by
  decide

/-- Vector Q9. -/
theorem test_q9_io_published :
    (core1 { phaseState 0 true with ilOp := 0x0901, regA := digitsOfNat 0x1234567890123456 }).map
        (fun t => (t.bus.io, t.ioValid, t.r5)) = some (digitsOfNat 0x1234567890123000, false, 3) := by
  decide +kernel

/-! Witnesses: for each obligation with hypotheses, a state and operands that meet them, clause by clause -/

theorem test_witness_DecodeOfEncode : Instr.WellFormed (.subCIO 15 .xae) ∧ Instr.WellFormed (.addAK 1 .a) := by decide

theorem test_witness_IgnoredBitsHaveNoEffect :
    (0x1000#13).getLsbD 12 = true ∧ (0x1FFF#13).getLsbD 12 = true ∧
    (wordClass 0x0007#13 = .flag ∧ wordClass 0x00F7#13 = .flag ∧ opN 0x0007#13 = opN 0x00F7#13 ∧
      opN 0x0007#13 ∈ [7#4, 12#4, 15#4]) ∧
    (wordClass 0x0A01#13 = .wait ∧ wordClass 0x0AF1#13 = .wait ∧ opN 0x0A01#13 = opN 0x0AF1#13 ∧
      opN 0x0A01#13 ∉ [0#4, 5#4, 6#4, 7#4, 8#4]) ∧
    (wordClass 0x0A16#13 = .wait ∧ wordClass 0x0AF6#13 = .wait ∧ opN 0x0A16#13 = opN 0x0AF6#13 ∧
      opN 0x0A16#13 ∈ [6#4, 8#4] ∧ (0x0A16#13).getLsbD 4 = (0x0AF6#13).getLsbD 4) := by
  decide

theorem test_witness_StepAnswersUntilTheEnd :
    State.reset.ended = false ∧ { State.reset with ended := true }.ended = true := by
  decide

theorem test_witness_S0WriteRunsEarlyWords :
    (phaseState 0 true).ended = false ∧ (phaseState 0 true).resetCnt = 0 ∧ (phaseState 0 true).AtS0Write ∧
    isLate (phaseState 0 true).cfg.operandTable (decode (phaseState 0 true).ilOp) = false ∧
    isLate (phaseState 0 true).cfg.operandTable (decode { phaseState 0 true with ilOp := 0x0A0C }.ilOp) = true := by
  decide

theorem test_witness_S15ReadRunsLateWordsAndFetches :
    (phaseState 15 false).ended = false ∧ (phaseState 15 false).resetCnt = 0 ∧ (phaseState 15 false).AtS15Read ∧
    (phaseState 15 false).late = false ∧ { phaseState 15 false with late := true }.late = true := by
  decide

theorem test_witness_PlacedWordIsRunNext :
    isLate base.cfg.operandTable (decode 0x0000#13) = false ∧
    isLate base.cfg.operandTable (decode 0x01C0#13) = true := by
  decide

theorem test_witness_BootPhasesExecuteNothing : 0 < State.reset.resetCnt := by decide

theorem test_witness_OtherPhasesChangeNothing :
    (phaseState 3 true).resetCnt = 0 ∧
    (((phaseState 3 true).bus.write = true → (phaseState 3 true).bus.sstate ∉ [0#4, 1#4, 2#4, 14#4]) ∧
      ((phaseState 3 true).bus.write = false → (phaseState 3 true).bus.sstate ∉ [2#4, 15#4])) ∧
    (((phaseState 0 false).bus.write = true → (phaseState 0 false).bus.sstate ∉ [0#4, 1#4, 2#4, 14#4]) ∧
      ((phaseState 0 false).bus.write = false → (phaseState 0 false).bus.sstate ∉ [2#4, 15#4])) := by
  decide

theorem test_witness_SignallingPhases :
    (phaseState 1 true).resetCnt = 0 ∧ ((phaseState 1 true).bus.sstate = 1 ∧ (phaseState 1 true).bus.write = true) ∧
    ((phaseState 2 true).bus.sstate = 2 ∧ (phaseState 2 true).bus.write = true) ∧
    ((phaseState 2 false).bus.sstate = 2 ∧ (phaseState 2 false).bus.write = false) ∧
    ((phaseState 14 true).bus.sstate = 14 ∧ (phaseState 14 true).bus.write = true) := by
  decide

theorem test_witness_CoreWritesBusInWritePhasesOnly :
    (phaseState 2 false).bus.write = false ∧ (phaseState 0 true).bus.write = true ∧
    coreWrites (phaseState 1 true) .ext = false ∧ coreWrites (phaseState 0 true) .io = false ∧
    coreWrites (phaseState 0 true) .display = false := by
  decide

/-- Normal mode at S0 write, while the instruction store (chip 0) drives the next word and its address at S3 write,
the frame 6 phases on, and the key line at once. -/
def storeAtWork : State :=
  { phaseState 0 true with
    env := [{ Frame.quiet with chips := [{ writes := [.keyLine 0x11], nonzero := false }] }] ++
      List.replicate 5 Frame.quiet ++
      [{ Frame.quiet with chips := [{ writes := [.irg 0x0A04, .fetchAddr (.addr 5)], nonzero := false }] }] }

theorem test_witness_ExtDuringADigitCycle :
    storeAtWork.ended = false ∧ storeAtWork.resetCnt = 0 ∧ storeAtWork.AtS0Write ∧ storeAtWork.condL = false ∧
    storeAtWork.bus.ext = 0 ∧ storeAtWork.ExtLeftAlone 32 ∧ storeAtWork.NoOtherStops 32 ∧
    (∃ u, s0WriteExecute (publishIdle (beforeCore storeAtWork)) = .next u) ∧ (1 ≤ 1 ∧ 1 ≤ 32) ∧ (1 ≤ 32 ∧ 32 ≤ 32) :=
  ⟨by decide, by decide, by decide, by decide, by decide, by decide, by decide, ⟨_, rfl⟩, by decide, by decide⟩

theorem test_witness_BootDigitCycle :
    let s : State := { State.reset with resetCnt := 2, env := storeAtWork.env }
    (0 < s.resetCnt ∧ s.ended = false ∧ s.AtS0Write ∧ s.NoOtherStops 32) ∧
    (0 < State.reset.resetCnt ∧ State.reset.ended = false ∧ State.reset.AtS0Write ∧ State.reset.NoOtherStops 32) := by
  decide

theorem test_witness_PhaseOrderAndZeroing :
    (phaseState 0 true).ended = false ∧ (phaseState 0 true).bus.write = true ∧
    ((phaseState 14 false).bus.write = false ∧ (phaseState 14 false).bus.sstate ≠ 15) ∧
    ((phaseState 15 false).bus.write = false ∧ (phaseState 15 false).bus.sstate = 15) := by
  decide

/-- The answer of a step, where it is a next state. -/
def step1 (s : State) : Option State :=
  match step s with
  | .next t => some t
  | .fault _ => none
  | .refused _ => none

theorem test_witness_PhaseOrder_goes_on :
    (step1 (phaseState 14 false)).map (·.ended) = some false ∧
    (step1 (phaseState 15 false)).map (·.ended) = some false := by
  decide

theorem test_witness_RunEndsOnlyByAStop :
    (phaseState 15 false).ended = false ∧
    (step1 { phaseState 15 false with
        bus := { (phaseState 15 false).bus with fetchAddr := .stop } }).map (·.ended) = some true ∧
    (step1 { phaseState 3 true with
        env := [{ Frame.quiet with chips := [{ writes := [], nonzero := true }] }] }).map (·.stopReq) = some true := by
  decide

theorem test_witness_ParametersAreFixed : State.reset.ended = false := by decide

theorem test_witness_ResetValues : State.reset.ended = false := by decide

theorem test_witness_ResetHasInvariant : Config.reference.Legal := by decide

theorem test_witness_StepKeepsInvariant :
    State.reset.Inv ∧ step State.reset = .next { State.reset with bus := { State.reset.bus with ext := 1, write := false } } := by
  refine ⟨?_, rfl⟩
  constructor <;> decide

theorem test_witness_CondRisesOnlyByTheRearm :
    { phaseState 0 true with cond := false, jump := true }.ended = false ∧
    (step1 { phaseState 0 true with cond := false, jump := true }).map (·.cond) = some true := by
  decide

theorem test_witness_BusySetOnlyByTheEnvironment :
    (phaseState 3 true).ended = false ∧ (phaseState 3 true).busy = false ∧
    (step1 { phaseState 3 true with env := [{ Frame.quiet with setBusy := true }] }).map (·.busy) = some true := by
  decide

theorem test_witness_RearmOnEntry : instrClass (.frsv 0) ≠ .branch ∧ instrClass (.br 0) = .branch := by decide

theorem test_witness_DigitRegistersByArithmeticOnly :
    instrClass (.kscan 0) ≠ .arith ∧ instrClass (.br 0) ≠ .arith := by
  decide

theorem test_witness_NeedsHoldExactlyWithHold : base.hold = false := by decide

/-- An early word that is none of the three kinds; a late word with the IO destination; another phase. -/
theorem test_witness_HiddenStateDoesNotShowOnTheBus :
    ((∀ j mi, decode (phaseState 0 true).ilOp ≠ arInstr j mi .io) ∧
      (∀ x, decode (phaseState 0 true).ilOp ≠ .r5kr x) ∧ ∀ x, decode (phaseState 0 true).ilOp ≠ .xkrsr x) ∧
    isLate base.cfg.operandTable (decode 0x01C1#13) = true ∧ ¬ (phaseState 15 false).AtS0Write := by
  have h : decode (phaseState 0 true).ilOp = .tfa 0 := by decide
  rw [h]
  exact ⟨⟨by decide, by simp, by simp⟩, by decide, by decide⟩

theorem test_witness_BusyTest :
    ({ base with busy := true }.busy = true ∨ ∃ n : Fin 7, pressed { base with busy := true } 0x7F n = true) ∧
    (∃ n : Fin 7, pressed { base with keySnap := 0x40 } 0x7F n = true) ∧
    ¬ (base.busy = true ∨ ∃ n : Fin 7, pressed base 0x7F n = true) := by
  decide

theorem test_witness_WaitForDigitCycle :
    { base with digit := 3 }.digit = 3 ∧ { base with digit := 3 }.digit ≠ 0 := by
  decide

theorem test_witness_FullKeyboardScan :
    OnlyKey { base with keySnap := 0x40 } 0x7F 6 ∧ OnlyKey { base with keySnap := 0x01 } 0x7F 0 ∧
    ((¬ ∃ n : Fin 7, OnlyKey { base with keySnap := 9, digit := 5 } 0x7F n) ∧
      { base with keySnap := 9, digit := 5 }.digit ≠ 0) ∧
    ((¬ ∃ n : Fin 7, OnlyKey base 0x7F n) ∧ base.digit = 0) := by
  decide

theorem test_witness_KeyboardRowTest :
    (∃ n : Fin 7, OnlyKey { base with keySnap := 0x40 } 0x41 n) ∧
    ¬ ∃ n : Fin 7, OnlyKey { base with keySnap := 0x41 } 0x41 n := by
  decide

theorem test_witness_ArithmeticToARegister :
    (base.mask 1).HasWindow ∧ (base.mask 14).HasWindow ∧
    (Dest.d, Reg.d) ∈ [(Dest.a, Reg.a), (Dest.b, Reg.b), (Dest.c, Reg.c), (Dest.d, Reg.d)] := by
  decide

theorem test_witness_ArithmeticToIo : (base.mask 15).HasWindow := by decide

theorem test_witness_ArithmeticThenExchange :
    (base.mask 9).HasWindow ∧
    (Dest.xae, Reg.a, Reg.e) ∈ [(Dest.xab, Reg.a, Reg.b), (Dest.xcd, Reg.c, Reg.d), (Dest.xae, Reg.a, Reg.e)] := by
  decide

theorem test_witness_MalformedMaskChangesNothing : ¬ (base.mask 0).HasWindow := by decide

theorem test_witness_DecimalAddAndSubtract :
    (start.mask 12).HasWindow ∧ 1 ≤ (start.mask 12).start.val ∧ (start.mask 12).cval = 0 ∧ start.SerialSilent ∧
    DecimalIn (start.mask 12) (entryX 16 start) ∧ DecimalIn (start.mask 12) (entryY 16 (start.mask 12) start) ∧
    entryKind 16 start = .add ∧ entryKind 17 start = .sub := by
  decide +kernel

theorem test_witness_MixedRadixAddAndSubtract :
    (start.mask 1).start.val = 0 ∧ (start.mask 1).cval = 0 ∧ start.SerialSilent ∧
    DecimalIn (start.mask 1) (entryX 17 start) ∧ DecimalIn (start.mask 1) (entryY 17 (start.mask 1) start) ∧
    (Dest.a, Reg.a) ∈ [(Dest.a, Reg.a), (Dest.b, Reg.b), (Dest.c, Reg.c), (Dest.d, Reg.d)] := by
  decide +kernel

theorem test_witness_BcdClosure :
    (start.mask 15).HasWindow ∧ (entryKind 16 start = .add ∨ entryKind 16 start = .sub) ∧
    DecimalIn (start.mask 15) (entryX 16 start) ∧
    ∀ i : Fin 16, 1 ≤ i.val → (start.mask 15).InWindow i → natY 16 (start.mask 15) start i ≤ 9 := by
  decide +kernel

theorem test_witness_ShiftsMoveDigits :
    (start.mask 9).HasWindow ∧ entryKind 8 start = .shl ∧ entryKind 15 start = .shr ∧
    entryX 8 start = zeroDigits ∧ entryX 15 start = zeroDigits ∧
    (∀ i : Fin 16, 1 ≤ i.val → (start.mask 9).InWindow i → natY 15 (start.mask 9) start i ≤ 9) ∧
    (∀ i : Fin 16, 1 ≤ i.val → (start.mask 9).InWindow i → natY 8 (start.mask 9) start i ≤ 9) ∧
    (Dest.a, Reg.a) ∈ [(Dest.a, Reg.a), (Dest.b, Reg.b), (Dest.c, Reg.c), (Dest.d, Reg.d)] := by
  decide +kernel

/-- The start state with R5 = 10, and with MLSD5's window, digit 3 alone, for mask 9 without its constant. -/
def oneDigitWindow : State :=
  { start with r5 := 10, cfg := { start.cfg with maskTable := start.cfg.maskTable.set 9 ⟨3, 3, 3, 0⟩ } }

theorem test_witness_R5ToAdder :
    (start.cfg.operandTable[(30 : Fin 32)].x = .r5 ∧ (start.mask 6).HasWindow ∧ 1 ≤ (start.mask 6).start.val ∧
      (start.mask 6).cval = 0 ∧ start.SerialSilent ∧ entryKind 30 start = .add ∧ entryKind 31 start = .sub ∧
      (Dest.b, Reg.b) ∈ [(Dest.a, Reg.a), (Dest.b, Reg.b), (Dest.c, Reg.c), (Dest.d, Reg.d)]) ∧
    (oneDigitWindow.cfg.operandTable[(31 : Fin 32)].x = .r5 ∧ (oneDigitWindow.mask 9).HasWindow ∧
      1 ≤ (oneDigitWindow.mask 9).start.val ∧ (oneDigitWindow.mask 9).cval = 0 ∧ oneDigitWindow.SerialSilent ∧
      10 ≤ oneDigitWindow.r5.toNat ∧ (oneDigitWindow.mask 9).start = (oneDigitWindow.mask 9).last) := by
  decide

/-- 40_alu_exchange.md R149 by hand: R5 = 10 in one digit, R5+ carries out (start digit 0), R5- borrows (0 - 10 + 10). -/
theorem test_r5_to_adder_one_digit :
    (after 0x09F0#13 oneDigitWindow).map (fun t => (digitAt t.regA 3, t.r5, t.cond)) = some (0, 0, false) ∧
    (after 0x09F8#13 oneDigitWindow).map (fun t => (digitAt t.regA 3, t.r5, t.cond)) = some (0, 0, false) := by
  decide +kernel

theorem test_witness_AddThenSubtractRestores :
    Reg.a ≠ Reg.b ∧ MaskDesc.HasWindow ⟨0, 15, 0, 0⟩ ∧ MaskDesc.cval ⟨0, 15, 0, 0⟩ = 0 ∧ start.SerialSilent ∧
    DecimalIn ⟨0, 15, 0, 0⟩ (start.reg .a) ∧ DecimalIn ⟨0, 15, 0, 0⟩ (start.reg .b) := by
  decide +kernel

theorem test_witness_ShiftLeftThenRight :
    MaskDesc.HasWindow ⟨3, 15, 3, 0⟩ ∧ MaskDesc.cval ⟨3, 15, 3, 0⟩ = 0 ∧ start.SerialSilent ∧
    DecimalIn ⟨3, 15, 3, 0⟩ (start.reg .a) := by
  decide +kernel

theorem test_witness_PassInPlaceEqualsPassOnCopies : MaskDesc.HasWindow ⟨15, 15, 15, 1⟩ := by decide

theorem test_witness_ExchangeTwiceRestores : Reg.a ≠ Reg.e := by decide

theorem test_witness_ArithmeticWords :
    start.cfg.operandTable = operandTableRef ∧ (start.mask 9).HasWindow := by
  decide

/-- Chip 0 before the core, chips 1 and 2 after it, each with a field of its own, at S3 write and at S0 write. -/
def threeChips (ss : BitVec 4) : State :=
  { phaseState ss true with
    cfg := { Config.reference with attachedAfter := [1, 2] }
    env := [{ Frame.quiet with
      chips := [{ writes := [.irg 0x0A04, .fetchAddr (.addr 5)], nonzero := false },
        { writes := [.orExt 0x0918], nonzero := false }, { writes := [.keyLine 0x11], nonzero := false }] }] }

/-- The same chips at S0 write, the store driving the next word. -/
def storeAtS0 : State := { threeChips 0 with env := storeAtWork.env.drop 6 }

/-- Both clauses: a permutation on the core's side; one across the core, at S3 write and at S0 write. -/
theorem test_witness_AttachmentOrderDoesNotDecide :
    (threeChips 3).ended = false ∧ (threeChips 3).cfg.attached.Nodup ∧ (threeChips 3).SingleWriter ∧
    (List.Perm [0] (threeChips 3).cfg.attachedBefore ∧ List.Perm [2, 1] (threeChips 3).cfg.attachedAfter) ∧
    (List.Perm ([2, 1] ++ [0]) (threeChips 3).cfg.attached ∧ ¬ (threeChips 3).AtS0Write) ∧
    (storeAtS0.ended = false ∧ storeAtS0.cfg.attached.Nodup ∧ storeAtS0.SingleWriter ∧
      List.Perm ([2, 1] ++ [0]) storeAtS0.cfg.attached ∧ storeAtS0.AtS0Write ∧
      ∀ n ∈ storeAtS0.cfg.attached,
        storeAtS0.frame.writes n .ext = false ∧ storeAtS0.frame.writes n .keyLine = false) := by
  decide

/-- Two writers of EXT in one phase break the premise: chip 1 and the core, which signals COND at S1 write. -/
theorem test_two_writers_break_the_premise :
    ¬ { threeChips 1 with condL := true }.SingleWriter ∧ (threeChips 1).SingleWriter := by
  decide

/-- 70_reset_and_hazards.md R418, two chips writing one field: of two assignments the later wins; both ORs count. -/
theorem test_two_writers_in_attachment_order :
    (step1 { threeChips 3 with
        env := [{ Frame.quiet with
          chips := [{ writes := [.keyLine 1], nonzero := false }, { writes := [.orExt 4], nonzero := false },
            { writes := [.keyLine 2, .orExt 8], nonzero := false }] }] }).map
      (fun t => (t.bus.keyLine, t.bus.ext)) = some (2, 12) := by
  decide

end Sys2Proof.Tests
end

section
/-!
SUPPORT. What the decoder leaves unchanged, for every instruction: the bus, the coordinator's latches, the sequencer's
variables, the parameters and the schedule (10_state.md section 5, 41_branch.md R180).
-/
namespace Sys2Proof.Machine

open Sys2Proof

/-- From s to t the state keeps all that is not the decoder's: t is s but for the digit registers, the flag words, KR,
SR, R5, the seven CPU flags other than CONDL, and IOOUT. -/
structure KeepsOutsideDecoder (s t : State) : Prop where
  bus : t.bus = s.bus
  ilOp : t.ilOp = s.ilOp
  ilAddr : t.ilAddr = s.ilAddr
  condL : t.condL = s.condL
  sin : t.sin = s.sin
  late : t.late = s.late
  digit : t.digit = s.digit
  extSnap : t.extSnap = s.extSnap
  keySnap : t.keySnap = s.keySnap
  resetCnt : t.resetCnt = s.resetCnt
  stopReq : t.stopReq = s.stopReq
  ended : t.ended = s.ended
  cfg : t.cfg = s.cfg
  env : t.env = s.env

theorem KeepsOutsideDecoder.refl (s : State) : KeepsOutsideDecoder s s := by
  constructor <;> rfl

theorem KeepsOutsideDecoder.trans {s t u : State} (h : KeepsOutsideDecoder s t) (k : KeepsOutsideDecoder t u) :
    KeepsOutsideDecoder s u where
  bus := k.bus.trans h.bus
  ilOp := k.ilOp.trans h.ilOp
  ilAddr := k.ilAddr.trans h.ilAddr
  condL := k.condL.trans h.condL
  sin := k.sin.trans h.sin
  late := k.late.trans h.late
  digit := k.digit.trans h.digit
  extSnap := k.extSnap.trans h.extSnap
  keySnap := k.keySnap.trans h.keySnap
  resetCnt := k.resetCnt.trans h.resetCnt
  stopReq := k.stopReq.trans h.stopReq
  ended := k.ended.trans h.ended
  cfg := k.cfg.trans h.cfg
  env := k.env.trans h.env

theorem rearm_keepsOutsideDecoder (s : State) : KeepsOutsideDecoder s (rearm s) := by
  constructor <;> simp

theorem clearCondIf_keepsOutsideDecoder (b : Bool) (s : State) : KeepsOutsideDecoder s (clearCondIf b s) := by
  constructor <;> simp

theorem setTarget_keepsOutsideDecoder (s : State) (t : Target) (v : Digits) :
    KeepsOutsideDecoder s (s.setTarget t v) := by
  constructor <;> simp

theorem exchange_keepsOutsideDecoder (p q : Reg) (m : MaskDesc) (s : State) :
    KeepsOutsideDecoder s (exchange p q m s) := by
  constructor <;> simp

theorem waitDigit_keepsOutsideDecoder (b : BitVec 4) (s : State) : KeepsOutsideDecoder s (waitDigit b s).1 := by
  obtain ⟨-, h⟩ | ⟨-, h⟩ := waitDigit_spec b s <;> rw [h] <;> constructor <;> rfl

theorem fullScan_keepsOutsideDecoder (mask : KeyRow) (s : State) : KeepsOutsideDecoder s (fullScan mask s).1 := by
  obtain ⟨-, h⟩ | ⟨-, -, h⟩ | ⟨-, -, h⟩ := fullScan_spec mask s <;> rw [h] <;> constructor <;> rfl

/-- The pass writes its target, R5 and COND only. -/
theorem alu_keepsOutsideDecoder (k : Kind) (X Y : Digits) (t : Target) (m : MaskDesc) (s : State) :
    KeepsOutsideDecoder s (alu k X Y t m s) := by
  unfold alu
  split
  · exact .refl s
  · exact (setTarget_keepsOutsideDecoder s t _).trans (by constructor <;> rfl)

/-- The steps around the pass touch IOOUT and IOVALID, or exchange two registers; nothing else. -/
theorem arithOn_keepsOutsideDecoder (k : Kind) (X Y : Digits) (m : MaskDesc) (dst : Dest) (s : State) :
    KeepsOutsideDecoder s (arithOn k X Y m dst s) := by
  cases dst with
  | io =>
    have cleared : KeepsOutsideDecoder s { s with ioOut := zeroDigits } := by constructor <;> rfl
    rw [arithOn_io]
    exact (cleared.trans (alu_keepsOutsideDecoder ..)).trans (by constructor <;> rfl)
  | a | b | c | d =>
    rw [arithOn_reg (h := rfl)]
    exact alu_keepsOutsideDecoder ..
  | xab | xcd | xae =>
    rw [arithOn_exchange (h := rfl)]
    exact (alu_keepsOutsideDecoder ..).trans (exchange_keepsOutsideDecoder ..)

theorem arithEntry_keepsOutsideDecoder (j : Fin 32) (mi : BitVec 4) (dst : Dest) (s : State) :
    KeepsOutsideDecoder s (arithEntry j mi dst s) := by
  unfold arithEntry
  rw [arith_eq]
  exact arithOn_keepsOutsideDecoder ..

/-- Every instruction answers a next state, and keeps all that is not the decoder's. -/
theorem exec_keepsOutsideDecoder (i : Instr) (s : State) : ∃ t, exec i s = .next t ∧ KeepsOutsideDecoder s t := by
  have entry := rearm_keepsOutsideDecoder s
  cases i with
  | br => exact ⟨_, rfl, by constructor <;> rfl⟩
  | frsv | waitbusy | wrsv14 | wrsv15 => exact ⟨_, rfl, entry⟩
  | tfa | tfb | tkr | ktest => exact ⟨_, rfl, entry.trans (clearCondIf_keepsOutsideDecoder ..)⟩
  | kscan => exact ⟨_, rfl, entry.trans (fullScan_keepsOutsideDecoder ..)⟩
  | waitd => exact ⟨_, rfl, entry.trans (waitDigit_keepsOutsideDecoder ..)⟩
  | tbusy => exact ⟨_, rfl, entry.trans (by split <;> constructor <;> rfl)⟩
  | sfa | zfa | ifa | xfab | skr | cfab | r5fa | sfb | zfb | ifb | zkr | cfba | r5fb | clridle | clrfa | inckr | far5
  | fbr5 | ldr5 | krr5 | r5kr | setidle | clrfb | extkr | xkrsr =>
    exact ⟨_, rfl, entry.trans (by constructor <;> rfl)⟩
  | addAK | subAK | add0B | sub0B | addCK | subCK | add0D | sub0D | shlA | shrA | shlB | shrB | shlC | shrC | shlD
  | shrD | addAB | subAB | addCB | subCB | addCD | subCD | addAD | subAD | addAIO | subAIO | add0K | sub0K | addCIO
  | subCIO | addR5 | subR5 =>
    exact ⟨_, rfl, entry.trans (arithEntry_keepsOutsideDecoder ..)⟩

end Sys2Proof.Machine
end

section
/-!
SUPPORT. What the core and the other chips can do to the sequencer in one phase: which phase it is, the bus in a read
phase, and a non-zero return (20_memory.md R76, R77, R80).
-/
namespace Sys2Proof.Machine

open Sys2Proof

/-- The core is in the phase in which it fetches and the address on the bus is STOP: S15 read, in normal mode or in the
last boot digit-cycle (48_coordinator.md R342, R357). -/
abbrev State.CoreStops (s : State) : Prop := s.AtS15Read ∧ s.resetCnt ≤ 1 ∧ s.bus.fetchAddr = .stop

/-- The bus names the same phase in both states, and is the same bus if that is a read phase. -/
structure SamePhase (b c : Bus) : Prop where
  dstate : c.dstate = b.dstate
  sstate : c.sstate = b.sstate
  write : c.write = b.write
  read : b.write = false → c = b

theorem SamePhase.refl (b : Bus) : SamePhase b b := ⟨rfl, rfl, rfl, fun _ => rfl⟩

theorem SamePhase.trans {b c d : Bus} (h : SamePhase b c) (k : SamePhase c d) : SamePhase b d where
  dstate := k.dstate.trans h.dstate
  sstate := k.sstate.trans h.sstate
  write := k.write.trans h.write
  read hr := (k.read (h.write.trans hr)).trans (h.read hr)

/-- From s to t nothing of the sequencer's is changed, but that its `stop` of the serial-state under way is raised if
r, the non-zero return of a chip between them (20_memory.md R77, R80). -/
structure WithinPhase (r : Bool) (s t : State) : Prop where
  phase : SamePhase s.bus t.bus
  ended : t.ended = s.ended
  stopReq : t.stopReq = (s.stopReq || r)

theorem WithinPhase.refl (s : State) : WithinPhase false s s := ⟨.refl _, rfl, by simp⟩

theorem WithinPhase.trans {r : Bool} {s t u : State} (h : WithinPhase false s t) (k : WithinPhase r t u) :
    WithinPhase r s u where
  phase := h.phase.trans k.phase
  ended := k.ended.trans h.ended
  stopReq := by rw [k.stopReq, h.stopReq, Bool.or_false]

/-- In a write phase the bus may change, where it still names the same phase. -/
theorem WithinPhase.of_write {s t : State} (hw : s.bus.write = true) (dstate : t.bus.dstate = s.bus.dstate)
    (sstate : t.bus.sstate = s.bus.sstate) (write : t.bus.write = s.bus.write) (ended : t.ended = s.ended)
    (stopReq : t.stopReq = s.stopReq) : WithinPhase false s t where
  phase := ⟨dstate, sstate, write, fun hr => by simp [hw] at hr⟩
  ended := ended
  stopReq := by simp [stopReq]

/-- Where the bus is kept, so is the phase. -/
theorem WithinPhase.of_bus_eq {s t : State} (bus : t.bus = s.bus) (ended : t.ended = s.ended)
    (stopReq : t.stopReq = s.stopReq) : WithinPhase false s t where
  phase := bus ▸ .refl _
  ended := ended
  stopReq := by simp [stopReq]

theorem KeepsOutsideDecoder.withinPhase {s t : State} (h : KeepsOutsideDecoder s t) : WithinPhase false s t :=
  .of_bus_eq h.bus h.ended h.stopReq

/-- A stop depends on the phase, what the bus holds in a read phase, and RESETCNT only. -/
theorem coreStops_congr {s t : State} (h : SamePhase s.bus t.bus) (hc : t.resetCnt = s.resetCnt) :
    t.CoreStops ↔ s.CoreStops := by
  cases hw : s.bus.write with
  | false => simp only [State.CoreStops, State.AtS15Read, h.read hw, hc]
  | true => simp [State.CoreStops, State.AtS15Read, h.write, hw]

theorem not_coreStops_of_write {s : State} (hw : s.bus.write = true) : ¬ s.CoreStops := by
  rintro ⟨⟨-, hr⟩, -⟩
  simp [hw] at hr

theorem WithinPhase.not_stopping {s t : State} (h : WithinPhase false s t) (running : ¬ s.CoreStops) :
    WithinPhase (decide s.CoreStops) s t := by
  rwa [decide_eq_false running]

theorem WithinPhase.not_stopping_of_write {s t : State} (h : WithinPhase false s t) (hw : s.bus.write = true) :
    WithinPhase (decide s.CoreStops) s t :=
  h.not_stopping (not_coreStops_of_write hw)

/-! The chips around the core -/

theorem chipWrites_samePhase (ws : List BusWrite) (s : State) : SamePhase s.bus (chipWrites ws s).bus := by
  obtain ⟨b, hb, hr⟩ := chipWrites_spec ws s
  rw [hb]
  exact ⟨rfl, rfl, rfl, fun hw => by rw [hr hw]; rfl⟩

theorem beforeCore_samePhase (s : State) : SamePhase s.bus (beforeCore s).bus := by
  obtain ⟨b, hb, hr⟩ := beforeCore_spec s
  rw [hb]
  exact ⟨rfl, rfl, rfl, fun hw => by rw [hr hw]; rfl⟩

/-- A write phase forgets the returns of the serial-state before it (20_memory.md R77). -/
theorem beforeCore_stopReq (s : State) :
    (beforeCore s).stopReq = ((if s.bus.write = true then false else s.stopReq) || s.othersStop) := by
  obtain ⟨b, hb, -⟩ := beforeCore_spec s
  rw [hb]

/-! The core -/

theorem publishIdle_withinPhase (s : State) : WithinPhase false s (publishIdle s) := by
  unfold publishIdle
  split
  next hw => exact .of_write hw rfl rfl rfl rfl rfl
  next => exact .refl s

theorem fetchLatch_withinPhase (s : State) :
    WithinPhase (decide (s.bus.fetchAddr = .stop)) s (fetchLatch s) :=
  ⟨.refl _, rfl, rfl⟩

theorem s0WriteExecute_withinPhase (s : State) : ∃ t, s0WriteExecute s = .next t ∧ WithinPhase false s t := by
  have entry : WithinPhase false s (s0WriteEnter s) := .of_bus_eq rfl rfl rfl
  obtain ⟨-, h⟩ | ⟨-, h⟩ := s0WriteExecute_cases s
  · exact ⟨_, h, entry⟩
  · obtain ⟨t, ht, hk⟩ := exec_keepsOutsideDecoder (decode s.ilOp) (s0WriteEnter s)
    exact ⟨t, h.trans ht, entry.trans hk.withinPhase⟩

theorem s0Write_withinPhase (s : State) (hw : s.bus.write = true) :
    ∃ t, s0Write s = .next t ∧ WithinPhase false s t := by
  obtain ⟨u, hu, hs⟩ := s0WriteExecute_withinPhase s
  have published : WithinPhase false u (publishKr (publishIo u)) := by
    rw [publish_eq]
    exact .of_write (hs.phase.write.trans hw) rfl rfl rfl rfl rfl
  exact ⟨_, (onNext_eq_next ..).mpr ⟨u, hu, rfl⟩, hs.trans published⟩

theorem s1Write_withinPhase (s : State) (hw : s.bus.write = true) : WithinPhase false s (s1Write s) := by
  unfold s1Write
  split
  · exact .of_write hw rfl rfl rfl rfl rfl
  · exact .refl s

theorem s2Write_withinPhase (s : State) (hw : s.bus.write = true) : WithinPhase false s (s2Write s) := by
  unfold s2Write
  split
  · exact .of_write hw rfl rfl rfl rfl rfl
  · exact .refl s

theorem s2Read_withinPhase (s : State) : WithinPhase false s (s2Read s) :=
  .of_bus_eq (s2Read_bus s) (s2Read_ended s) (s2Read_stopReq s)

theorem blankOutputs_withinPhase (s : State) (hw : s.bus.write = true) : WithinPhase false s (blankOutputs s) :=
  .of_write hw rfl rfl rfl rfl rfl

/-- S15 read: a late word runs or not, and the fetch follows (48_coordinator.md R355 to R357). -/
theorem s15Read_withinPhase (s : State) :
    ∃ t, s15Read s = .next t ∧ WithinPhase (decide (s.bus.fetchAddr = .stop)) s t := by
  unfold s15Read
  split
  · obtain ⟨u, hu, hk⟩ := exec_keepsOutsideDecoder (decode s.ilOp) { s with sin := s.bus.io }
    have ran : WithinPhase false s { u with late := false } := .of_bus_eq hk.bus hk.ended hk.stopReq
    have addr : u.bus.fetchAddr = s.bus.fetchAddr := congrArg Bus.fetchAddr hk.bus
    exact ⟨_, by rw [runDecoder, hu]; rfl, addr ▸ ran.trans (fetchLatch_withinPhase _)⟩
  · exact ⟨_, rfl, fetchLatch_withinPhase s⟩

/-- Normal mode: in every phase the core keeps what is the sequencer's, and returns non-zero exactly at a stop. -/
theorem normalPhase_withinPhase (s : State) (hc : s.resetCnt = 0) :
    ∃ t, normalPhase s = .next t ∧ WithinPhase (decide s.CoreStops) s t := by
  unfold normalPhase
  split
  next hw _ =>
    obtain ⟨t, ht, kept⟩ := s0Write_withinPhase s hw
    exact ⟨t, ht, kept.not_stopping_of_write hw⟩
  next hw _ => exact ⟨_, rfl, (s1Write_withinPhase s hw).not_stopping_of_write hw⟩
  next hw _ => exact ⟨_, rfl, (s2Write_withinPhase s hw).not_stopping_of_write hw⟩
  next _ hs =>
    have running : ¬ s.CoreStops := fun ⟨⟨h15, _⟩, _⟩ => by simp [h15] at hs
    exact ⟨_, rfl, (s2Read_withinPhase s).not_stopping running⟩
  next hw _ => exact ⟨_, rfl, (blankOutputs_withinPhase s hw).not_stopping_of_write hw⟩
  next hw hs =>
    have h15 : s.bus.sstate = 15 := BitVec.eq_of_toNat_eq hs
    have stops_iff : s.CoreStops ↔ s.bus.fetchAddr = .stop := by simp [State.CoreStops, State.AtS15Read, h15, hw, hc]
    simp only [stops_iff]
    exact s15Read_withinPhase s
  next not15 =>
    have running : ¬ s.CoreStops := fun ⟨⟨h15, hw⟩, _⟩ => not15 hw (by simp [h15])
    exact ⟨_, rfl, (WithinPhase.refl s).not_stopping running⟩

/-- Boot mode: the same, where the core stops only in the last boot digit-cycle. -/
theorem bootPhase_withinPhase (s : State) : WithinPhase (decide s.CoreStops) s (bootPhase s) := by
  unfold bootPhase
  split
  next hw _ =>
    have pulsed : WithinPhase false s { s with bus := { s.bus with ext := 0x0001 } } :=
      .of_write hw rfl rfl rfl rfl rfl
    exact pulsed.not_stopping_of_write hw
  next hw _ => exact (blankOutputs_withinPhase s hw).not_stopping_of_write hw
  next hw hs =>
    have h15 : s.bus.sstate = 15 := BitVec.eq_of_toNat_eq hs
    have counted : WithinPhase false s { s with resetCnt := s.resetCnt - 1 } := .of_bus_eq rfl rfl rfl
    by_cases last : s.resetCnt - 1 = 0
    · have stops_iff : s.CoreStops ↔ s.bus.fetchAddr = .stop := by
        simp [State.CoreStops, State.AtS15Read, h15, hw, Nat.sub_eq_zero_iff_le.mp last]
      simp only [stops_iff, if_pos last]
      exact counted.trans (fetchLatch_withinPhase { s with resetCnt := s.resetCnt - 1 })
    · have running : ¬ s.CoreStops := fun ⟨_, hle, _⟩ => last (Nat.sub_eq_zero_of_le hle)
      rw [if_neg last]
      exact counted.not_stopping running
  next not15 =>
    have running : ¬ s.CoreStops := fun ⟨⟨h15, hw⟩, _⟩ => not15 hw (by simp [h15])
    exact (WithinPhase.refl s).not_stopping running

/-- The core's invocation keeps what is the sequencer's, and returns non-zero exactly at a stop. -/
theorem coreProcess_withinPhase (s : State) :
    ∃ t, coreProcess s = .next t ∧ WithinPhase (decide s.CoreStops) s t := by
  have idle := publishIdle_withinPhase s
  have hc : (publishIdle s).resetCnt = s.resetCnt := publishIdle_resetCnt s
  have hstops : decide (publishIdle s).CoreStops = decide s.CoreStops :=
    decide_eq_decide.mpr (coreStops_congr idle.phase hc)
  obtain h0 | hpos := Nat.eq_zero_or_pos s.resetCnt
  · obtain ⟨t, ht, core⟩ := normalPhase_withinPhase (publishIdle s) (hc.trans h0)
    exact ⟨t, (coreProcess_normal s h0).trans ht, hstops ▸ idle.trans core⟩
  · exact ⟨_, coreProcess_boot s hpos, hstops ▸ idle.trans (bootPhase_withinPhase _)⟩

/-! The step -/

/-- A step of a run under way is the chips' phase, which keeps the phase the bus names and collects the non-zero
returns of the serial-state, and then the sequencer's move. -/
theorem step_eq_advance (s : State) (h : s.ended = false) :
    ∃ u, step s = .next (advance u) ∧ SamePhase s.bus u.bus ∧ u.ended = false ∧
      u.stopReq =
        ((if s.bus.write = true then false else s.stopReq) || s.othersStop || decide s.CoreStops) := by
  have before := beforeCore_samePhase s
  obtain ⟨t, ht, core⟩ := coreProcess_withinPhase (beforeCore s)
  refine ⟨chipWrites s.writesAfter t, ?_, (before.trans core.phase).trans (chipWrites_samePhase _ t), ?_, ?_⟩
  · exact (runPhase_running s h).trans ((onNext_eq_next ..).mpr ⟨t, ht, rfl⟩)
  · rw [chipWrites_ended, core.ended, beforeCore_ended, h]
  · have hstops := coreStops_congr before (beforeCore_resetCnt s)
    rw [chipWrites_stopReq, core.stopReq, beforeCore_stopReq, decide_eq_decide.mpr hstops]

/-- The sequencer ends a run after a read phase with a non-zero return in its serial-state (20_memory.md R80). -/
theorem advance_ended_iff (s : State) (h : s.ended = false) :
    (advance s).ended = true ↔ s.bus.write = false ∧ s.stopReq = true := by
  obtain ⟨hw, hs⟩ | ⟨hr, stop, hs⟩ | ⟨hr, stop, -, hs⟩ | ⟨hr, stop, -, hs⟩ := advance_cases s
  · simp [hs, h, hw]
  · simp [hs, hr, stop]
  · simp [hs, h, stop]
  · simp [hs, h, stop]

end Sys2Proof.Machine
end

section
/-!
SUPPORT. The sequencer's statements of 20_memory.md: the order of the phases with the zeroing, and the end of the run.
-/
namespace Sys2Proof.Machine

open Sys2Proof

/-- Settles O19, by the cases of the sequencer's move. -/
theorem phaseOrderAndZeroing : Obligations.PhaseOrderAndZeroing := by
  refine ⟨fun s h => ?_, fun c p env => ⟨rfl, rfl, rfl⟩⟩
  obtain ⟨u, hstep, same, hended, -⟩ := step_eq_advance s h
  refine ⟨advance u, hstep, ?_⟩
  obtain ⟨hw, hu⟩ | ⟨hr, -, hu⟩ | ⟨hr, -, h15, hu⟩ | ⟨hr, -, h15, hu⟩ := advance_cases u
  case inl =>
    have write : s.bus.write = true := same.write.symm.trans hw
    simp [hu, write, hended, same.sstate, same.dstate]
  all_goals
    have read : s.bus.write = false := same.write.symm.trans hr
    rw [same.read read] at hu
  · simp [hu, read]
  · rw [same.sstate] at h15
    exact ⟨by simp [read], fun _ _ _ => by rw [hu], fun _ _ last => absurd last h15⟩
  · rw [same.sstate] at h15
    exact ⟨by simp [read], fun _ _ inner => absurd h15 inner, fun _ _ _ => by rw [hu]; rfl⟩

/-- Settles O20: the run ends in the move after a read phase with a non-zero return, and `step_eq_advance` says where
these come from. -/
theorem runEndsOnlyByAStop : Obligations.RunEndsOnlyByAStop := by
  intro s h
  obtain ⟨u, hstep, same, hended, hstop⟩ := step_eq_advance s h
  refine ⟨advance u, hstep, ?_, fun write => ?_⟩
  · rw [advance_ended_iff u hended, same.write, hstop]
    refine and_congr_right fun read => ?_
    simp [State.CoreStops, State.AtS15Read, read, or_assoc]
  · have running := not_coreStops_of_write write
    rw [advance_stopReq, hstop, decide_eq_false running]
    simp [write]

end Sys2Proof.Machine
end

section
/-!
SUPPORT. The decoder by class: the slot it reads for a word of each class, the class of what a slot holds, and the
slots whose effect does not depend on the bits the spec calls ignored (30_encoding.md R101, R111, R112, R115).
-/
namespace Sys2Proof.Machine

open Sys2Proof

theorem wordClass_eq (w : OpWord) :
    wordClass w =
      if w.getLsbD 12 then .branch
      else if opClass w = 0 then .flag
      else if opClass w = 8 then .keyboard
      else if opClass w = 10 then .wait
      else .arith := rfl

/-- The decoder asks for the class of the word first, and then reads the class's own fields (30_encoding.md R101,
R103 to R107). -/
theorem decode_eq (w : OpWord) :
    decode w =
      match wordClass w with
      | .branch => .br (w.extractLsb' 0 12)
      | .flag => flagSlots[(opN w).toFin] (opB w)
      | .keyboard => if w.getLsbD 3 then .kscan (opKeyMask w) else .ktest (opKeyMask w)
      | .wait => waitSlots[(opN w).toFin] (opB w)
      | .arith => arInstr (opJ w).toFin (opClass w) destTable[(opD w).toFin] := by
  rw [wordClass_eq]
  unfold decode
  split_ifs <;> rfl

theorem wordClass_of_bit12 {w : OpWord} (h : w.getLsbD 12 = true) : wordClass w = .branch := if_pos h

/-! The class of what a slot holds -/

theorem instrClass_flagSlots (n : Fin 16) (b : BitVec 4) : instrClass (flagSlots[n] b) = .flag := by
  fin_cases n <;> rfl

theorem instrClass_pairSlot (i0 i1 : BitVec 3 → Instr) (c : OpClass) (h0 : ∀ x, instrClass (i0 x) = c)
    (h1 : ∀ x, instrClass (i1 x) = c) (b : BitVec 4) : instrClass (pairSlot i0 i1 b) = c := by
  unfold pairSlot
  split
  · exact h1 _
  · exact h0 _

theorem instrClass_waitSlots (n : Fin 16) (b : BitVec 4) : instrClass (waitSlots[n] b) = .wait := by
  have slots : n = 6 ∨ n = 8 ∨ n ∈ ([0, 1, 2, 3, 4, 5, 7, 9, 10, 11, 12, 13, 14, 15] : List (Fin 16)) := by
    revert n
    decide
  obtain rfl | rfl | single := slots
  · exact instrClass_pairSlot .far5 .fbr5 .wait (fun _ => rfl) (fun _ => rfl) b
  · exact instrClass_pairSlot .krr5 .r5kr .wait (fun _ => rfl) (fun _ => rfl) b
  · fin_cases single <;> rfl

theorem instrClass_arInstr (j : Fin 32) (mi : BitVec 4) (dst : Dest) : instrClass (arInstr j mi dst) = .arith := by
  fin_cases j <;> rfl

/-! The ignored bits: the effect of one slot n = m, with two values b and c of op[7:4] -/

/-- R5FA, FRSV and R5FB do not use b (30_encoding.md R115). -/
theorem exec_flagSlots_congr {n m : BitVec 4} (hn : n = m) (ignored : n ∈ [7#4, 12#4, 15#4]) (b c : BitVec 4)
    (s : State) : exec (flagSlots[n.toFin] b) s = exec (flagSlots[m.toFin] c) s := by
  subst hn
  fin_cases ignored <;> rfl

/-- WAITD, TKR and LDR5 use b, and slots 6 and 8 its bit 0; no other wait operation uses any of it (30_encoding.md
R115). -/
theorem exec_waitSlots_congr {n m : BitVec 4} (hn : n = m) (ignored : n ∉ [0#4, 5#4, 6#4, 7#4, 8#4])
    (b c : BitVec 4) (s : State) : exec (waitSlots[n.toFin] b) s = exec (waitSlots[m.toFin] c) s := by
  subst hn
  have others : n ∈ [1#4, 2#4, 3#4, 4#4, 9#4, 10#4, 11#4, 12#4, 13#4, 14#4, 15#4] := by
    revert n
    decide
  fin_cases others <;> rfl

/-- A slot that op[4] splits between two instructions which do not use their operand uses no other bit of b. -/
theorem exec_pairSlot_congr {i0 i1 : BitVec 3 → Instr} {s : State} (h0 : ∀ x y, exec (i0 x) s = exec (i0 y) s)
    (h1 : ∀ x y, exec (i1 x) s = exec (i1 y) s) {b c : BitVec 4} (variant : b.getLsbD 0 = c.getLsbD 0) :
    exec (pairSlot i0 i1 b) s = exec (pairSlot i0 i1 c) s := by
  unfold pairSlot
  rw [variant]
  split
  · exact h1 _ _
  · exact h0 _ _

/-- FAR5, FBR5, KRR5 and R5KR do not use x (30_encoding.md R112, R115). -/
theorem exec_waitSlots_congr_of_pair {n m : BitVec 4} (hn : n = m) (pair : n ∈ [6#4, 8#4]) {b c : BitVec 4}
    (variant : b.getLsbD 0 = c.getLsbD 0) (s : State) :
    exec (waitSlots[n.toFin] b) s = exec (waitSlots[m.toFin] c) s := by
  subst hn
  simp only [List.mem_cons, List.not_mem_nil, or_false] at pair
  obtain rfl | rfl := pair
  · exact exec_pairSlot_congr (i0 := .far5) (i1 := .fbr5) (fun _ _ => rfl) (fun _ _ => rfl) variant
  · exact exec_pairSlot_congr (i0 := .krr5) (i1 := .r5kr) (fun _ _ => rfl) (fun _ _ => rfl) variant

theorem opB_bit0 (w : OpWord) : (opB w).getLsbD 0 = w.getLsbD 4 := by
  simp [opB]

end Sys2Proof.Machine
end

section
/-!
SUPPORT. The decoder's statements of 30_encoding.md: the class of a word, its ignored bits, and that no word stops the
core.
-/
namespace Sys2Proof.Machine

open Sys2Proof

/-- Settles O4: each test of R101 that holds leads the decoder to slots of that class. -/
theorem classSelection : Obligations.ClassSelection := by
  intro w
  rw [decode_eq]
  cases wordClass w with
  | branch => rfl
  | flag => exact instrClass_flagSlots _ _
  | keyboard => dsimp only; split <;> rfl
  | wait => exact instrClass_waitSlots _ _
  | arith => exact instrClass_arInstr _ _ _

/-- Settles O6: two words of one class and slot decode to one row of the slot table, which does not use the bits
they may differ in. -/
theorem ignoredBitsHaveNoEffect : Obligations.IgnoredBitsHaveNoEffect := by
  intro w v s
  simp only [runDecoder, decode_eq]
  refine ⟨fun hw hv => ?_, fun hw hv hn ignored => ?_, fun hw hv hn ignored => ?_, fun hw hv hn pair variant => ?_⟩
  · rw [wordClass_of_bit12 hw, wordClass_of_bit12 hv]
    rfl
  · rw [hw, hv]
    exact exec_flagSlots_congr hn ignored _ _ s
  · rw [hw, hv]
    exact exec_waitSlots_congr hn ignored _ _ s
  · rw [hw, hv]
    rw [← opB_bit0, ← opB_bit0] at variant
    exact exec_waitSlots_congr_of_pair hn pair variant s

/-- Settles O9: every instruction answers a next state and keeps what is the sequencer's. -/
theorem noEncodingStopsTheCore : Obligations.NoEncodingStopsTheCore := by
  intro w s
  obtain ⟨t, hexec, kept⟩ := exec_keepsOutsideDecoder (decode w) s
  exact ⟨t, hexec, kept.stopReq, kept.ended⟩

end Sys2Proof.Machine
end

section
/-!
SUPPORT. Writes of one or two digit registers against each other, and the exchange of two registers done twice
(40_alu_exchange.md R160, R161).
-/
namespace Sys2Proof.Machine

open Sys2Proof

@[simp] theorem setReg_setReg_same (s : State) (r : Reg) (v w : Digits) :
    (s.setReg r v).setReg r w = s.setReg r w := by
  cases r <;> rfl

theorem setReg_comm (s : State) {p q : Reg} (hpq : p ≠ q) (v w : Digits) :
    (s.setReg p v).setReg q w = (s.setReg q w).setReg p v := by
  cases p with
  | _ => cases q with
    | _ => first | rfl | exact absurd rfl hpq

/-- Writing back what a register holds changes nothing. -/
@[simp] theorem setReg_reg_self (s : State) (r : Reg) : s.setReg r (s.reg r) = s := by
  cases r <;> rfl

/-- Merging the window back from the other merged vector undoes the merge. -/
theorem mergeWindow_mergeWindow (m : MaskDesc) (P Q : Digits) :
    mergeWindow m (mergeWindow m P Q) (mergeWindow m Q P) = P := by
  refine digits_ext _ _ fun i _ => ?_
  simp only [digitAt_mergeWindow]
  split_ifs <;> rfl

/-- The second of two writes of a pair of registers is all that is left of them. -/
theorem setReg_pair_overwrite (s : State) {p q : Reg} (hpq : p ≠ q) (v w v' w' : Digits) :
    (((s.setReg p v).setReg q w).setReg p v').setReg q w' = (s.setReg p v').setReg q w' := by
  rw [setReg_comm _ hpq.symm, setReg_setReg_same, setReg_setReg_same]

theorem exchange_eq (p q : Reg) (m : MaskDesc) (s : State) :
    exchange p q m s = (s.setReg p (mergeWindow m (s.reg p) (s.reg q))).setReg q
      (mergeWindow m (s.reg q) (s.reg p)) := rfl

/-- Settles O59: the second exchange merges each window back, and so writes the first contents of each register. -/
theorem exchangeTwiceRestores : Obligations.ExchangeTwiceRestores := by
  intro p q m s hpq
  have hp : (exchange p q m s).reg p = mergeWindow m (s.reg p) (s.reg q) := by
    rw [exchange_eq, setReg_reg_ne _ _ _ _ hpq, setReg_reg]
  have hq : (exchange p q m s).reg q = mergeWindow m (s.reg q) (s.reg p) := setReg_reg ..
  calc exchange p q m (exchange p q m s)
      = ((exchange p q m s).setReg p (s.reg p)).setReg q (s.reg q) := by
        rw [exchange_eq p q m (exchange p q m s), hp, hq, mergeWindow_mergeWindow, mergeWindow_mergeWindow]
    _ = (s.setReg p (s.reg p)).setReg q (s.reg q) := setReg_pair_overwrite s hpq ..
    _ = s := by rw [setReg_reg_self, setReg_reg_self]

end Sys2Proof.Machine
end

section
/-!
SUPPORT. The pass in place against the pass on copies (40_alu_exchange.md R157): iteration i reads digit i of its
operands, and no earlier iteration has written that digit.
-/
namespace Sys2Proof.Machine

open Sys2Proof

/-- The state s with a pass's destination, R5 and COND as a pass has them so far. -/
def State.withPass (s : State) (t : Target) (p : Pass) : State :=
  { s.setTarget t p.dest with r5 := p.r5, cond := p.cond }

/-- What the loop of 40_alu_exchange.md R141 starts from. -/
def State.passStart (s : State) (t : Target) : Pass :=
  { carry := false, shl := 0, dest := s.targetValue t, r5 := s.r5, cond := s.cond }

theorem alu_eq_withPass (k : Kind) (X Y : Digits) (t : Target) (m : MaskDesc) (s : State) (hm : m.HasWindow) :
    alu k X Y t m s = s.withPass t (passUpto k m (digitAt X) (s.secondOperand m Y) (s.passStart t) 16) := by
  unfold alu
  rw [if_neg (Fin.not_lt.mpr hm)]
  rfl

/-- Before its first iteration a pass has changed nothing. -/
theorem withPass_passStart (s : State) (t : Target) : s.withPass t (s.passStart t) = s := by
  cases t with
  | reg r => cases r <;> rfl
  | none | ioOut => rfl

theorem withPass_serialIn (s : State) (t : Target) (p : Pass) (i : Nat) :
    (s.withPass t p).serialIn i = s.serialIn i := by
  simp [State.serialIn, State.withPass]

theorem withPass_reg (s : State) (t : Target) (p : Pass) (r : Reg) :
    (s.withPass t p).reg r = if t = .reg r then p.dest else s.reg r := by
  cases t with
  | reg q => exact (reg_setReg s q r p.dest).trans (by simp [eq_comm])
  | none | ioOut => cases r <;> rfl

theorem withPass_ite_r5 (s : State) (t : Target) (p : Pass) (b : Prop) [Decidable b] (v : Digit) :
    (if b then { s.withPass t p with r5 := v } else s.withPass t p) =
      s.withPass t { p with r5 := if b then v else p.r5 } := by
  split <;> rfl

theorem withPass_ite_cond (s : State) (t : Target) (p : Pass) (b : Prop) [Decidable b] (c : Bool) :
    (if b then { s.withPass t p with cond := c } else s.withPass t p) =
      s.withPass t { p with cond := if b then c else p.cond } := by
  split <;> rfl

theorem withPass_writeDigit (k : Kind) (m : MaskDesc) (i : Nat) (v shl shr : Digit) (s : State) (t : Target)
    (p : Pass) :
    (s.withPass t p).setTarget t (writeDigit k m i v shl shr ((s.withPass t p).targetValue t)) =
      s.withPass t { p with dest := writeDigit k m i v shl shr p.dest } := by
  cases t with
  | reg q => cases q <;> rfl
  | none | ioOut => rfl

/-- Iteration i writes no digit above i (40_alu_exchange.md R157). -/
theorem digitAt_writeDigit_above (k : Kind) (m : MaskDesc) {i j : Nat} (hij : i < j) (v shl shr : Digit)
    (D : Digits) : digitAt (writeDigit k m i v shl shr D) j = digitAt D j := by
  have hne : ¬ (i = j ∧ j < 16) := by omega
  have hpred : ¬ (i - 1 = j ∧ j < 16) := by omega
  cases k with
  | add | sub | shl => simp only [writeDigit, digitAt_setDigit, if_neg hne]
  | shr =>
    simp only [writeDigit]
    split_ifs <;> simp only [digitAt_setDigit, if_neg hne, if_neg hpred]

theorem digitAt_passDigit_above (k : Kind) (m : MaskDesc) (x y : Digit) {i j : Nat} (hij : i < j) (p : Pass) :
    digitAt (passDigit k m x y i p).dest j = digitAt p.dest j := by
  by_cases hw : m.InWindow i
  · unfold passDigit
    simp only [if_pos hw, digitAt_writeDigit_above k m hij]
  · rw [(passDigit_below k m x y i p hw).1]

/-- The digits from n on are still unwritten after n iterations. -/
theorem digitAt_passUpto_unwritten (k : Kind) (m : MaskDesc) (X Y : Nat → Digit) (p : Pass) {n j : Nat}
    (hnj : n ≤ j) : digitAt (passUpto k m X Y p n).dest j = digitAt p.dest j := by
  induction n with
  | zero => rfl
  | succ n ih => rw [passUpto, digitAt_passDigit_above k m _ _ (by omega), ih (by omega)]

/-- One iteration in place, on a state that a pass on copies has led to and from which it reads the digits x and y,
is the iteration of that pass. -/
theorem inPlaceDigit_withPass (k : Kind) (X Y : Option Reg) (t : Target) (m : MaskDesc) (s : State) (p : Pass)
    (i : Nat) (y : Digit) (hy : liveDigit Y (s.withPass t p) i ||| s.serialIn i ||| constAt m i = y) :
    inPlaceDigit k X Y t m i (s.withPass t p, p.carry, p.shl) =
      (s.withPass t (passDigit k m (liveDigit X (s.withPass t p) i) y i p),
        (passDigit k m (liveDigit X (s.withPass t p) i) y i p).carry,
        (passDigit k m (liveDigit X (s.withPass t p) i) y i p).shl) := by
  generalize hx : liveDigit X (s.withPass t p) i = x
  unfold inPlaceDigit passDigit
  simp only [hx, withPass_serialIn, hy]
  by_cases hw : m.InWindow i
  · simp only [if_pos hw, withPass_ite_r5, withPass_writeDigit, withPass_ite_cond]
    rfl
  · simp only [if_neg hw]
    rfl

/-- The value of an operand of the pass in place, an absent one being zeros. -/
def State.operand (s : State) (R : Option Reg) : Digits :=
  match R with
  | none => zeroDigits
  | some r => s.reg r

/-- Iteration n of the pass in place reads the digits its operands had before the pass. -/
theorem liveDigit_withPass_passUpto (R : Option Reg) (k : Kind) (t : Target) (m : MaskDesc) (X Y : Nat → Digit)
    (s : State) (n : Nat) :
    liveDigit R (s.withPass t (passUpto k m X Y (s.passStart t) n)) n = digitAt (s.operand R) n := by
  cases R with
  | none => exact (digitAt_zeroDigits n).symm
  | some r =>
    simp only [liveDigit, withPass_reg]
    split
    next ht => rw [digitAt_passUpto_unwritten k m X Y _ (Nat.le_refl n), ht]; rfl
    next => rfl

/-- After n iterations the state and the temporaries of the pass in place are those of the pass on copies. -/
theorem inPlaceUpto_eq_passUpto (k : Kind) (X Y : Option Reg) (t : Target) (m : MaskDesc) (s : State) (n : Nat) :
    let p := passUpto k m (digitAt (s.operand X)) (s.secondOperand m (s.operand Y)) (s.passStart t) n
    inPlaceUpto k X Y t m s n = (s.withPass t p, p.carry, p.shl) := by
  induction n with
  | zero => exact Prod.ext (withPass_passStart s t).symm rfl
  | succ n ih =>
    rw [inPlaceUpto, ih, inPlaceDigit_withPass (hy := rfl), liveDigit_withPass_passUpto, liveDigit_withPass_passUpto]
    rfl

/-- Settles O58: all sixteen iterations agree with those of the pass on copies. -/
theorem passInPlaceEqualsPassOnCopies : Obligations.PassInPlaceEqualsPassOnCopies := by
  intro k X Y t m s hm
  rw [inPlaceUpto_eq_passUpto]
  exact (alu_eq_withPass k (s.operand X) (s.operand Y) t m s hm).symm

end Sys2Proof.Machine
end

section
/-!
SUPPORT. The exact arithmetic of a pass over a window whose digits are all below their radix: what one digit keeps, and
what that says of the digits and carries of an addition, a subtraction and a shift (40_alu_exchange.md R147 to R154).
-/
namespace Sys2Proof.Machine

open Sys2Proof

/-- The radix of a digit: digit 0 is binary, the others are decimal (40_alu_exchange.md R148, R149). -/
def digitRadix (i : Nat) : Nat := if i = 0 then 16 else 10

theorem digitRadix_zero : digitRadix 0 = 16 := rfl

theorem digitRadix_of_pos {i : Nat} (hi : 1 ≤ i) : digitRadix i = 10 := if_neg (by omega)

/-- ADD on digits below the radix: a digit and a carry of the sum. -/
theorem exact_add (i x y : Nat) (c : Bool) (hx : x < digitRadix i) (hy : y < digitRadix i) :
    exactValue .add i x (y + c.toNat) < digitRadix i ∧
      exactValue .add i x (y + c.toNat) + digitRadix i * (exactCarry .add i x (y + c.toNat)).toNat =
        x + y + c.toNat := by
  have hc := c.toNat_le
  revert hc
  generalize c.toNat = c
  intro hc
  unfold exactValue exactCarry
  by_cases hi : i = 0
  · subst hi
    rw [digitRadix_zero] at *
    by_cases carry : 16 ≤ x + (y + c) <;> simp [carry] <;> omega
  · rw [digitRadix_of_pos (by omega)] at *
    by_cases carry : 10 ≤ x + (y + c) <;> simp [carry, hi] <;> omega

/-- SUB on digits below the radix: a digit and a borrow of the difference. -/
theorem exact_sub (i x y : Nat) (c : Bool) (hx : x < digitRadix i) (hy : y < digitRadix i) :
    exactValue .sub i x (y + c.toNat) < digitRadix i ∧
      exactValue .sub i x (y + c.toNat) + y + c.toNat =
        x + digitRadix i * (exactCarry .sub i x (y + c.toNat)).toNat := by
  have hc := c.toNat_le
  revert hc
  generalize c.toNat = c
  intro hc
  unfold exactValue exactCarry
  by_cases hi : i = 0
  · subst hi
    rw [digitRadix_zero] at *
    by_cases borrow : x < y + c <;> simp [borrow] <;> omega
  · rw [digitRadix_of_pos (by omega)] at *
    have small : ¬ y + c + 10 ≤ x := by omega
    by_cases borrow : x < y + c <;> simp [borrow, small, hi] <;> omega

/-- A shift has no first operand: a digit below the radix passes without a carry. -/
theorem exact_shl (i y : Nat) (hy : y < digitRadix i) :
    exactCarry .shl i 0 y = false ∧ exactValue .shl i 0 y = y := by
  unfold exactValue exactCarry
  by_cases hi : i = 0
  · subst hi
    rw [digitRadix_zero] at hy
    simp [hy, Nat.mod_eq_of_lt]
  · rw [digitRadix_of_pos (by omega)] at hy
    simp [hi, Nat.not_le.mpr hy]
    omega

/-! The same along a window that starts at digit start; its n-th digit is digit start + n -/

theorem windowCarry_succ (k : Kind) (start : Nat) (x y : Nat → Nat) (n : Nat) :
    windowCarry k start x y (n + 1) =
      exactCarry k (start + n) (x (start + n)) (y (start + n) + (windowCarry k start x y n).toNat) := rfl

theorem windowDigit_offset (k : Kind) (start : Nat) (x y : Nat → Nat) (n : Nat) :
    windowDigit k start x y (start + n) =
      exactValue k (start + n) (x (start + n)) (y (start + n) + (windowCarry k start x y n).toNat) := by
  rw [windowDigit, Nat.add_sub_cancel_left]

/-- The first n digits from digit start on are below their radix. -/
def BelowRadix (start n : Nat) (x : Nat → Nat) : Prop := ∀ i < n, x (start + i) < digitRadix (start + i)

theorem BelowRadix.of_succ {start n : Nat} {x : Nat → Nat} (h : BelowRadix start (n + 1) x) :
    BelowRadix start n x := fun i hi => h i (by omega)

section
variable {start n : Nat} {x y : Nat → Nat}

theorem windowDigit_add (hx : BelowRadix start (n + 1) x) (hy : BelowRadix start (n + 1) y) :
    windowDigit .add start x y (start + n) < digitRadix (start + n) ∧
      windowDigit .add start x y (start + n) +
          digitRadix (start + n) * (windowCarry .add start x y (n + 1)).toNat =
        x (start + n) + y (start + n) + (windowCarry .add start x y n).toNat := by
  rw [windowDigit_offset, windowCarry_succ]
  exact exact_add _ _ _ _ (hx n n.lt_succ_self) (hy n n.lt_succ_self)

theorem windowDigit_sub (hx : BelowRadix start (n + 1) x) (hy : BelowRadix start (n + 1) y) :
    windowDigit .sub start x y (start + n) < digitRadix (start + n) ∧
      windowDigit .sub start x y (start + n) + y (start + n) + (windowCarry .sub start x y n).toNat =
        x (start + n) + digitRadix (start + n) * (windowCarry .sub start x y (n + 1)).toNat := by
  rw [windowDigit_offset, windowCarry_succ]
  exact exact_sub _ _ _ _ (hx n n.lt_succ_self) (hy n n.lt_succ_self)

theorem windowCarry_shl (hy : BelowRadix start n y) : windowCarry .shl start (fun _ => 0) y n = false := by
  induction n with
  | zero => rfl
  | succ n ih =>
    rw [windowCarry_succ, ih hy.of_succ]
    exact (exact_shl _ _ (hy n n.lt_succ_self)).1

/-- SHL carries no digit of the window over its radix: each passes as it is. -/
theorem windowDigit_shl (hy : BelowRadix start (n + 1) y) :
    windowDigit .shl start (fun _ => 0) y (start + n) = y (start + n) := by
  rw [windowDigit_offset, windowCarry_shl hy.of_succ]
  exact (exact_shl _ _ (hy n n.lt_succ_self)).2

/-- Subtracting y from digits that adding it has given: each borrow is the carry of the addition, and each digit the
addition's first operand (40_alu_exchange.md R165). -/
theorem windowDigit_sub_of_add {d : Nat → Nat} (hx : BelowRadix start n x) (hy : BelowRadix start n y)
    (hd : ∀ i < n, d (start + i) = windowDigit .add start x y (start + i)) :
    windowCarry .sub start d y n = windowCarry .add start x y n ∧
      ∀ i < n, windowDigit .sub start d y (start + i) = x (start + i) := by
  induction n with
  | zero => exact ⟨rfl, fun i hi => absurd hi i.not_lt_zero⟩
  | succ n ih =>
    obtain ⟨carries, digits⟩ := ih hx.of_succ hy.of_succ fun i hi => hd i (by omega)
    have hdr : BelowRadix start (n + 1) d := fun i hi => by
      rw [hd i hi]
      exact (windowDigit_add (fun j hj => hx j (by omega)) (fun j hj => hy j (by omega))).1
    obtain ⟨-, sum⟩ := windowDigit_add hx hy
    obtain ⟨hlt, difference⟩ := windowDigit_sub hdr hy
    have hxn := hx n n.lt_succ_self
    rw [← hd n n.lt_succ_self] at sum
    rw [carries] at difference
    have both : windowCarry .sub start d y (n + 1) = windowCarry .add start x y (n + 1) ∧
        windowDigit .sub start d y (start + n) = x (start + n) := by
      cases hb : windowCarry .sub start d y (n + 1) <;> cases hc : windowCarry .add start x y (n + 1) <;>
        simp [hb, hc] at sum difference ⊢ <;> omega
    refine ⟨both.1, fun i hi => ?_⟩
    obtain hbefore | hlast := Nat.lt_succ_iff_lt_or_eq.mp hi
    · exact digits i hbefore
    · rw [hlast, both.2]

end

end Sys2Proof.Machine
end

section
/-!
SUPPORT. Passes with no serial input and no constant: what they leave of the registers, and the statements on two
passes one after the other, ADD with SUB and SHL with SHR (40_alu_exchange.md R165, R166).
-/
namespace Sys2Proof.Machine

open Sys2Proof

/-- Without serial input and constant the second operand is Y alone (40_alu_exchange.md R143 to R146). -/
theorem secondOperand_of_silent (s : State) (m : MaskDesc) (Y : Digits) (hc : m.cval = 0) (silent : s.SerialSilent) :
    s.secondOperand m Y = digitAt Y := by
  funext i
  have noConst : constAt m i = 0 := by simp [constAt, hc]
  have noSerial : s.serialIn i = 0 := by
    unfold State.serialIn
    obtain valid | zero := silent
    · rw [if_pos valid]
    · rw [zero, digitAt_zeroDigits, ite_self]
  simp [State.secondOperand, noConst, noSerial]

/-- A pass leaves SIN and IOVALID, and so its serial input, alone. -/
theorem alu_serialSilent (k : Kind) (X Y : Digits) (t : Target) (m : MaskDesc) (s : State) (hm : m.HasWindow)
    (silent : s.SerialSilent) : (alu k X Y t m s).SerialSilent := by
  simpa [alu_eq_withPass k X Y t m s hm, State.withPass, State.SerialSilent] using silent

/-- Everything a pass without serial input and constant does to the registers, R5 and COND. -/
structure SilentPass (k : Kind) (X Y : Digits) (r : Reg) (m : MaskDesc) (s t : State) : Prop where
  silent : t.SerialSilent
  others : ∀ q, q ≠ r → t.reg q = s.reg q
  r5 : t.r5.toNat = windowDigit k m.start (nats (digitAt X)) (nats (digitAt Y)) m.start
  cond : t.cond = condAfter k m (nats (digitAt X)) (nats (digitAt Y)) s.cond
  digits : ∀ i, (digitAt (t.reg r) i).toNat =
    windowResult k m (nats (digitAt X)) (nats (digitAt Y)) (digitAt (s.reg r) i).toNat i

theorem alu_silentPass (k : Kind) (X Y : Digits) (r : Reg) (m : MaskDesc) (s : State) (hm : m.HasWindow)
    (hc : m.cval = 0) (silent : s.SerialSilent) : SilentPass k X Y r m s (alu k X Y (.reg r) m s) := by
  have kept := alu_serialSilent k X Y (.reg r) m s hm silent
  have hreg : ∀ q, q ≠ r → (alu k X Y (.reg r) m s).reg q = s.reg q := fun q hq => by
    rw [alu_eq_withPass k X Y (.reg r) m s hm, withPass_reg, if_neg fun h => hq (Target.reg.inj h).symm]
  obtain ⟨h5, hcond, hdest⟩ := pass_spec k m (digitAt X) (s.secondOperand m Y) (s.passStart (.reg r)) hm
  rw [secondOperand_of_silent s m Y hc silent] at h5 hcond hdest
  rw [alu_eq_withPass k X Y (.reg r) m s hm, secondOperand_of_silent s m Y hc silent] at kept hreg ⊢
  refine ⟨kept, hreg, h5, hcond, fun i => ?_⟩
  rw [withPass_reg, if_pos rfl]
  exact hdest i

/-! The window's digits one by one -/

theorem windowResult_of_not_inWindow (k : Kind) {m : MaskDesc} (x y : Nat → Nat) (old : Nat) {i : Nat}
    (hi : ¬ m.InWindow i) : windowResult k m x y old i = old := if_neg hi

/-- A digit of the window is the window's first digit or a later one of its last - start + 1. -/
theorem exists_offset_of_inWindow {m : MaskDesc} {i : Nat} (hi : m.InWindow i) :
    ∃ n < m.last.val + 1 - m.start.val, m.start.val + n = i := by
  obtain ⟨hstart, hlast⟩ := hi
  exact ⟨i - m.start.val, by omega, by omega⟩

/-- Digits that are decimal where they have to be are below their radix. -/
theorem DecimalIn.belowRadix {m : MaskDesc} {R : Digits} (h : DecimalIn m R) :
    BelowRadix m.start (m.last.val + 1 - m.start.val) (nats (digitAt R)) := by
  intro n hn
  have hlt : m.start.val + n < 16 := by omega
  obtain h0 | hpos := Nat.eq_zero_or_pos (m.start.val + n)
  · rw [h0]
    exact digitAt_toNat_lt R 0
  · rw [digitRadix_of_pos hpos]
    have := h ⟨m.start.val + n, hlt⟩ hpos ⟨m.start.val.le_add_right n, (by omega : m.start.val + n ≤ m.last.val)⟩
    exact Nat.lt_succ_of_le this

theorem condAfter_imp {k : Kind} {m : MaskDesc} {x y : Nat → Nat} {c : Bool} (h : condAfter k m x y c = true) :
    c = true := by
  cases k with
  | add | sub => exact (Bool.and_eq_true_iff.mp h).1
  | shl | shr => exact h

/-- Subtracting what was added gives back every digit of the register (40_alu_exchange.md R165). -/
theorem SilentPass.sub_add {X Y : Digits} {r : Reg} {m : MaskDesc} {s t u : State}
    (hX : s.reg r = X) (hx : DecimalIn m X) (hy : DecimalIn m Y)
    (add : SilentPass .add X Y r m s t) (sub : SilentPass .sub (t.reg r) Y r m t u) :
    u.reg r = X ∧ (m.HasWindow → u.r5 = digitAt X m.start) := by
  have sum : ∀ n < m.last.val + 1 - m.start.val, nats (digitAt (t.reg r)) (m.start + n) =
      windowDigit .add m.start (nats (digitAt X)) (nats (digitAt Y)) (m.start + n) := fun n hn =>
    (add.digits _).trans (if_pos ⟨by omega, by omega⟩)
  obtain ⟨-, restored⟩ := windowDigit_sub_of_add hx.belowRadix hy.belowRadix sum
  constructor
  · refine digits_ext _ _ fun i _ => BitVec.eq_of_toNat_eq ?_
    rw [sub.digits]
    by_cases hi : m.InWindow i
    · obtain ⟨n, hn, rfl⟩ := exists_offset_of_inWindow hi
      exact (if_pos hi).trans (restored n hn)
    · rw [windowResult_of_not_inWindow _ _ _ _ hi, add.digits, windowResult_of_not_inWindow _ _ _ _ hi, hX]
  · intro hm
    exact BitVec.eq_of_toNat_eq (sub.r5.trans (restored 0 (by have : m.start.val ≤ m.last.val := hm; omega)))

/-- A state that meets the premises of R165: 9 and 1 at digit 1 of A and B, COND set. -/
def carryState : State :=
  { State.reset with regA := setDigit zeroDigits 1 9, regB := setDigit zeroDigits 1 1, cond := true }

/-- Settles O56: the borrows of the subtraction are the carries of the addition; adding 1 to 9 in a window of one digit
clears COND, and the subtraction does not set it. -/
theorem addThenSubtractRestores : Obligations.AddThenSubtractRestores := by
  refine ⟨?_, .a, .b, ⟨1, 1, 1, 0⟩, carryState, by decide, by decide, by decide⟩
  rintro x y m s ⟨hxy, hm, hc, silent, hx, hy⟩
  have add := alu_silentPass .add (s.reg x) (s.reg y) x m s hm hc silent
  have sub := alu_silentPass .sub ((alu .add (s.reg x) (s.reg y) (.reg x) m s).reg x) (s.reg y) x m _ hm hc add.silent
  obtain ⟨hregx, hr5⟩ := SilentPass.sub_add rfl hx hy add sub
  dsimp only
  rw [add.others y hxy.symm]
  refine ⟨fun r => ?_, hr5 hm, fun h => ?_⟩
  · by_cases hr : r = x
    · rw [hr, hregx]
    · rw [sub.others r hr, add.others r hr]
  · rw [sub.cond] at h
    have h' := condAfter_imp h
    rw [add.cond] at h'
    exact condAfter_imp h'

/-! SHL and SHR of a register into itself -/

theorem nats_zeroDigits : nats (digitAt zeroDigits) = fun _ => 0 := by
  funext i
  simp [nats]

/-- SHL moves the window one digit up, 0 entering at its start (40_alu_exchange.md R152). -/
theorem SilentPass.shl_digit {Y : Digits} {r : Reg} {m : MaskDesc} {s t : State} (hy : DecimalIn m Y)
    (h : SilentPass .shl zeroDigits Y r m s t) (i : Nat) :
    digitAt (t.reg r) i =
      if m.InWindow i then (if i = m.start.val then 0 else digitAt Y (i - 1)) else digitAt (s.reg r) i := by
  apply BitVec.eq_of_toNat_eq
  rw [h.digits, nats_zeroDigits, windowResult]
  split_ifs with hi hs
  · rfl
  · obtain ⟨n, hn, rfl⟩ := exists_offset_of_inWindow hi
    obtain ⟨n, rfl⟩ := Nat.exists_eq_succ_of_ne_zero fun h0 : n = 0 => hs (by omega)
    exact windowDigit_shl (n := n) fun j hj => hy.belowRadix j (by omega)
  · rfl

/-- SHR moves the window one digit down, 0 entering at its end (40_alu_exchange.md R154). -/
theorem SilentPass.shr_digit {Y : Digits} {r : Reg} {m : MaskDesc} {s t : State}
    (h : SilentPass .shr zeroDigits Y r m s t) (i : Nat) :
    digitAt (t.reg r) i =
      if m.InWindow i then (if i = m.last.val then 0 else digitAt Y (i + 1)) else digitAt (s.reg r) i := by
  apply BitVec.eq_of_toNat_eq
  rw [h.digits, windowResult]
  split_ifs <;> rfl

/-- A window shifted one digit down is still decimal. -/
theorem SilentPass.shr_decimalIn {Y : Digits} {r : Reg} {m : MaskDesc} {s t : State} (hy : DecimalIn m Y)
    (h : SilentPass .shr zeroDigits Y r m s t) : DecimalIn m (t.reg r) := by
  intro i hi hw
  rw [h.shr_digit, if_pos hw]
  split_ifs with hlast
  · decide
  · have := hw.2
    exact hy ⟨i.val + 1, by omega⟩ (by simp) ⟨by have := hw.1; simp; omega, by simp; omega⟩

/-- Settles O57: each digit of the window comes back from where the first shift has put it. -/
theorem shiftLeftThenRight : Obligations.ShiftLeftThenRight := by
  intro r m s hm hc silent hy shift i
  have hle : m.start.val ≤ m.last.val := hm
  have pass : ∀ k t, t.SerialSilent → SilentPass k zeroDigits (t.reg r) r m t (shift k t) := fun k t ht =>
    alu_silentPass k zeroDigits (t.reg r) r m t hm hc ht
  have left := pass .shl s silent
  have right := pass .shr s silent
  have leftRight := pass .shr _ left.silent
  have rightLeft := pass .shl _ right.silent
  constructor
  · simp only [leftRight.shr_digit, Fin.ext_iff]
    split_ifs with hi hlast hlast
    · rfl
    · rw [left.shl_digit hy, if_pos (by omega), if_neg (by omega), Nat.add_sub_cancel]
    · omega
    · rw [left.shl_digit hy, if_neg hi]
  · simp only [rightLeft.shl_digit (right.shr_decimalIn hy), Fin.ext_iff]
    split_ifs with hi hstart hstart
    · rfl
    · rw [right.shr_digit, if_pos (by omega), if_neg (by omega), Nat.sub_add_cancel (by omega)]
    · omega
    · rw [right.shr_digit, if_neg hi]

end Sys2Proof.Machine
end

section
/-!
SUPPORT. What an arithmetic instruction with any destination does to COND and to the digits it writes, and the
statements on decimal windows: addition and subtraction modulo a power of ten, and decimal results of decimal operands
(40_alu_exchange.md R162, R163).
-/
namespace Sys2Proof.Machine

open Sys2Proof

theorem windowResult_of_inWindow (k : Kind) {m : MaskDesc} (x y : Nat → Nat) (old old' : Nat) {i : Nat}
    (hi : m.InWindow i) : windowResult k m x y old i = windowResult k m x y old' i := by
  unfold windowResult
  rw [if_pos hi, if_pos hi]

theorem windowResult_of_addSub {k : Kind} {m : MaskDesc} (hk : k = .add ∨ k = .sub) (x y : Nat → Nat) (old : Nat)
    {i : Nat} (hi : m.InWindow i) : windowResult k m x y old i = windowDigit k m.start x y i := by
  unfold windowResult
  rw [if_pos hi]
  obtain rfl | rfl := hk <;> rfl

theorem withPass_targetValue (s : State) {t : Target} (ht : t ≠ .none) (p : Pass) :
    (s.withPass t p).targetValue t = p.dest := by
  cases t with
  | none => exact absurd rfl ht
  | reg r => exact (withPass_reg s _ p r).trans (if_pos rfl)
  | ioOut => rfl

/-- A pass's COND, and the digits of the window that it writes. -/
theorem alu_window (k : Kind) (X Y : Digits) (t : Target) (m : MaskDesc) (s : State) (hm : m.HasWindow) :
    (alu k X Y t m s).cond = condAfter k m (nats (digitAt X)) (nats (s.secondOperand m Y)) s.cond ∧
      (t ≠ .none → ∀ i, m.InWindow i → (digitAt ((alu k X Y t m s).targetValue t) i).toNat =
        windowResult k m (nats (digitAt X)) (nats (s.secondOperand m Y)) 0 i) := by
  obtain ⟨-, hcond, hdest⟩ := pass_spec k m (digitAt X) (s.secondOperand m Y) (s.passStart t) hm
  rw [alu_eq_withPass k X Y t m s hm]
  refine ⟨hcond, fun ht i hi => ?_⟩
  rw [withPass_targetValue s ht, hdest]
  exact windowResult_of_inWindow k _ _ _ _ hi

/-- The same for the steps around the pass, which write neither COND nor what the pass has written. -/
theorem arithOn_window (k : Kind) (X Y : Digits) (m : MaskDesc) (dst : Dest) (s : State) (hm : m.HasWindow) :
    (arithOn k X Y m dst s).cond = condAfter k m (nats (digitAt X)) (nats (s.secondOperand m Y)) s.cond ∧
      (targetOf dst ≠ .none → ∀ i, m.InWindow i →
        (digitAt ((arithOn k X Y m dst s).targetValue (targetOf dst)) i).toNat =
          windowResult k m (nats (digitAt X)) (nats (s.secondOperand m Y)) 0 i) := by
  cases dst with
  | io =>
    rw [arithOn_io]
    exact alu_window k X Y .ioOut m { s with ioOut := zeroDigits } hm
  | a | b | c | d =>
    rw [arithOn_reg (h := rfl)]
    exact alu_window k X Y (.reg _) m s hm
  | xab | xcd | xae =>
    rw [arithOn_exchange (h := rfl), exchange_cond]
    exact ⟨(alu_window k X Y .none m s hm).1, fun h => absurd rfl h⟩

/-- An arithmetic instruction under a mask with a window, whatever its destination: COND, and the digits of the window
that it writes (45_arithmetic.md R285 to R288). -/
theorem exec_arInstr_window (j : Fin 32) (mi : BitVec 4) (dst : Dest) (s : State) (hm : (s.mask mi).HasWindow) :
    ∃ t, exec (arInstr j mi dst) s = .next t ∧
      t.cond = condAfter (entryKind j s) (s.mask mi) (natX j s) (natY j (s.mask mi) s) (s.cond || s.jump) ∧
      (targetOf dst ≠ .none → ∀ i, (s.mask mi).InWindow i → (digitAt (t.targetValue (targetOf dst)) i).toNat =
        windowResult (entryKind j s) (s.mask mi) (natX j s) (natY j (s.mask mi) s) 0 i) := by
  refine ⟨_, exec_arInstr j mi dst s, ?_⟩
  rw [arithEntry_eq j mi dst (entered s) hm]
  exact arithOn_window (entryKind j s) (entryX j s) (entryY j (s.mask mi) s) (s.mask mi) dst (entered s) hm

/-- Every destination a statement names is a target of the pass. -/
theorem targetOf_of_mem {dst : Dest} {q : Reg}
    (h : (dst, q) ∈ [(Dest.a, Reg.a), (Dest.b, Reg.b), (Dest.c, Reg.c), (Dest.d, Reg.d)]) :
    targetOf dst = .reg q := by
  fin_cases h <;> rfl

/-- What holds of the value of every target the pass writes holds of the register destinations and of IOOUT. -/
theorem written_of_targetValue {P : Digits → Prop} {dst : Dest} {t : State}
    (h : targetOf dst ≠ .none → P (t.targetValue (targetOf dst))) :
    (∀ q : Reg, (dst, q) ∈ [(Dest.a, Reg.a), (Dest.b, Reg.b), (Dest.c, Reg.c), (Dest.d, Reg.d)] → P (t.reg q)) ∧
      (dst = .io → P t.ioOut) := by
  constructor
  · intro q hq
    rw [targetOf_of_mem hq] at h
    exact h nofun
  · rintro rfl
    exact h nofun

/-! Decimal results of decimal operands -/

/-- At a decimal digit, ADD and SUB on decimal digits give a decimal digit (40_alu_exchange.md R163). -/
theorem windowDigit_le_nine {k : Kind} (hk : k = .add ∨ k = .sub) (start : Nat) {x y : Nat → Nat} {i : Nat}
    (hi : 1 ≤ i) (hx : x i ≤ 9) (hy : y i ≤ 9) : windowDigit k start x y i ≤ 9 := by
  have radix := digitRadix_of_pos hi
  have hx' : x i < digitRadix i := by omega
  have hy' : y i < digitRadix i := by omega
  unfold windowDigit
  obtain rfl | rfl := hk
  · have := (exact_add i (x i) (y i) (windowCarry .add start x y (i - start)) hx' hy').1
    omega
  · have := (exact_sub i (x i) (y i) (windowCarry .sub start x y (i - start)) hx' hy').1
    omega

/-- A and B hold 9 and 1 at digit 0, the binary digit. -/
def binaryDigitState : State :=
  { State.reset with regA := setDigit zeroDigits 0 9, regB := setDigit zeroDigits 0 1 }

/-- Settles O52: digit by digit; at digit 0, 9 + 1 is the digit 10. -/
theorem bcdClosure : Obligations.BcdClosure := by
  refine ⟨fun j mi dst s hm hk hx hy => ?_, binaryDigitState, _, by decide, by decide, by decide, rfl, by decide⟩
  obtain ⟨t, ht, -, digits⟩ := exec_arInstr_window j mi dst s hm
  refine ⟨t, ht, written_of_targetValue fun written i hi hw => ?_⟩
  rw [digits written i hw, windowResult_of_addSub hk _ _ _ hw]
  exact windowDigit_le_nine hk _ hi (hx i hi hw) (hy i hi hw)

end Sys2Proof.Machine
end

section
/-!
SUPPORT. A window of decimal digits as a number: ADD and SUB over it are addition and subtraction modulo a power of ten
(40_alu_exchange.md R162).
-/
namespace Sys2Proof.Machine

open Sys2Proof

/-- The number with the n decimal digits of x from index start on. -/
def digitsValue (x : Nat → Nat) (start n : Nat) : Nat :=
  match n with
  | 0 => 0
  | n + 1 => digitsValue x start n + x (start + n) * 10 ^ n

theorem digitsValue_succ (x : Nat → Nat) (start n : Nat) :
    digitsValue x start (n + 1) = digitsValue x start n + x (start + n) * 10 ^ n := rfl

theorem decimalValue_eq_digitsValue (R : Digits) (start n : Nat) :
    decimalValue R start n = digitsValue (nats (digitAt R)) start n := by
  induction n with
  | zero => rfl
  | succ n ih => rw [digitsValue_succ, ← ih]; rfl

section
variable {x y : Nat → Nat} {start n : Nat}

theorem digitsValue_congr (h : ∀ i < n, x (start + i) = y (start + i)) :
    digitsValue x start n = digitsValue y start n := by
  induction n with
  | zero => rfl
  | succ n ih => rw [digitsValue_succ, digitsValue_succ, ih fun i hi => h i (by omega), h n n.lt_succ_self]

theorem digitsValue_lt (hstart : 1 ≤ start) (hx : BelowRadix start n x) : digitsValue x start n < 10 ^ n := by
  induction n with
  | zero => exact Nat.one_pos
  | succ n ih =>
    have low := ih hx.of_succ
    have digit := hx n n.lt_succ_self
    rw [digitRadix_of_pos (by omega)] at digit
    have high := Nat.mul_le_mul_right (10 ^ n) (Nat.le_of_lt_succ digit)
    rw [digitsValue_succ, pow_succ]
    omega

theorem BelowRadix.windowDigit {k : Kind} (hk : k = .add ∨ k = .sub) (hx : BelowRadix start n x)
    (hy : BelowRadix start n y) : BelowRadix start n (windowDigit k start x y) := fun i hi => by
  have hx' : BelowRadix start (i + 1) x := fun j hj => hx j (by omega)
  have hy' : BelowRadix start (i + 1) y := fun j hj => hy j (by omega)
  obtain rfl | rfl := hk
  · exact (windowDigit_add hx' hy').1
  · exact (windowDigit_sub hx' hy').1

/-- The digits of an ADD and its carry are the sum of the operands. -/
theorem digitsValue_add_carry (hstart : 1 ≤ start) (hx : BelowRadix start n x) (hy : BelowRadix start n y) :
    digitsValue (windowDigit .add start x y) start n + (windowCarry .add start x y n).toNat * 10 ^ n =
      digitsValue x start n + digitsValue y start n := by
  induction n with
  | zero => rfl
  | succ n ih =>
    obtain ⟨-, digit⟩ := windowDigit_add hx hy
    rw [digitRadix_of_pos (by omega)] at digit
    simp only [digitsValue_succ, pow_succ]
    linear_combination ih hx.of_succ hy.of_succ + 10 ^ n * digit

/-- The digits of a SUB and the second operand are the first operand and the borrow. -/
theorem digitsValue_sub_borrow (hstart : 1 ≤ start) (hx : BelowRadix start n x) (hy : BelowRadix start n y) :
    digitsValue (windowDigit .sub start x y) start n + digitsValue y start n =
      digitsValue x start n + (windowCarry .sub start x y n).toNat * 10 ^ n := by
  induction n with
  | zero => rfl
  | succ n ih =>
    obtain ⟨-, digit⟩ := windowDigit_sub hx hy
    rw [digitRadix_of_pos (by omega)] at digit
    simp only [digitsValue_succ, pow_succ]
    linear_combination ih hx.of_succ hy.of_succ + 10 ^ n * digit

/-- ADD is addition modulo 10^n, with a carry where the sum has no n digits. -/
theorem digitsValue_add (hstart : 1 ≤ start) (hx : BelowRadix start n x) (hy : BelowRadix start n y) :
    digitsValue (windowDigit .add start x y) start n = (digitsValue x start n + digitsValue y start n) % 10 ^ n ∧
      windowCarry .add start x y n = !decide (digitsValue x start n + digitsValue y start n < 10 ^ n) := by
  have sum := digitsValue_add_carry hstart hx hy
  have hlt := digitsValue_lt hstart (hx.windowDigit (.inl rfl) hy)
  rw [← sum]
  cases windowCarry .add start x y n with
  | false => simp [Nat.mod_eq_of_lt hlt, hlt]
  | true => simp [Nat.mod_eq_of_lt hlt]

/-- SUB is subtraction modulo 10^n, with a borrow where the difference is negative. -/
theorem digitsValue_sub (hstart : 1 ≤ start) (hx : BelowRadix start n x) (hy : BelowRadix start n y) :
    digitsValue (windowDigit .sub start x y) start n =
        (digitsValue x start n + 10 ^ n - digitsValue y start n) % 10 ^ n ∧
      windowCarry .sub start x y n = !decide (digitsValue y start n ≤ digitsValue x start n) := by
  have difference := digitsValue_sub_borrow hstart hx hy
  have hlt := digitsValue_lt hstart (hx.windowDigit (.inr rfl) hy)
  have hxlt := digitsValue_lt hstart hx
  cases hb : windowCarry .sub start x y n with
  | false =>
    simp only [hb, Bool.toNat_false, zero_mul, add_zero] at difference
    have value : digitsValue x start n + 10 ^ n - digitsValue y start n =
        digitsValue (windowDigit .sub start x y) start n + 10 ^ n := by omega
    rw [value, Nat.add_mod_right, Nat.mod_eq_of_lt hlt, decide_eq_true (by omega)]
    exact ⟨rfl, rfl⟩
  | true =>
    simp only [hb, Bool.toNat_true, one_mul] at difference
    rw [← difference, Nat.add_sub_cancel, Nat.mod_eq_of_lt hlt, decide_eq_false (by omega)]
    exact ⟨rfl, rfl⟩

end

/-- The second operand of an entry is its Y alone without serial input and constant. -/
theorem natY_of_silent (j : Fin 32) (m : MaskDesc) (s : State) (hc : m.cval = 0) (silent : s.SerialSilent) :
    natY j m s = nats (digitAt (entryY j m s)) :=
  congrArg nats (secondOperand_of_silent s m (entryY j m s) hc silent)

/-- What an ADD or SUB of operands below the radix writes over a window without digit 0: decimal digits, with the
value of the window computation's. -/
theorem decimalValue_of_written {k : Kind} (hk : k = .add ∨ k = .sub) {m : MaskDesc} {x y : Nat → Nat} {D : Digits}
    (hx : BelowRadix m.start (m.last.val + 1 - m.start.val) x)
    (hy : BelowRadix m.start (m.last.val + 1 - m.start.val) y)
    (hD : ∀ i, m.InWindow i → (digitAt D i).toNat = windowResult k m x y 0 i) :
    DecimalIn m D ∧ decimalValue D m.start (m.last.val + 1 - m.start.val) =
      digitsValue (windowDigit k m.start x y) m.start (m.last.val + 1 - m.start.val) := by
  have digits : ∀ i, m.InWindow i → nats (digitAt D) i = windowDigit k m.start x y i := fun i hi =>
    (hD i hi).trans (windowResult_of_addSub hk x y 0 hi)
  constructor
  · intro i hi hw
    obtain ⟨n, hn, hin⟩ := exists_offset_of_inWindow hw
    have hlt := hx.windowDigit hk hy n hn
    rw [hin, digitRadix_of_pos hi] at hlt
    exact (digits i hw).trans_le (Nat.le_of_lt_succ hlt)
  · rw [decimalValue_eq_digitsValue]
    exact digitsValue_congr fun n hn => digits _ ⟨by omega, by omega⟩

/-- Settles O50: the window's digits as a number, and the carry out of the window. -/
theorem decimalAddAndSubtract : Obligations.DecimalAddAndSubtract := by
  intro j mi dst s m n nx ny hm hstart hc silent hx hy
  have hX := hx.belowRadix
  have hY := hy.belowRadix
  obtain ⟨sum, carry⟩ := digitsValue_add hstart hX hY
  obtain ⟨difference, borrow⟩ := digitsValue_sub hstart hX hY
  simp only [← decimalValue_eq_digitsValue] at sum carry difference borrow
  obtain ⟨t, ht, cond, digits⟩ := exec_arInstr_window j mi dst s hm
  rw [natY_of_silent j m s hc silent] at cond digits
  refine ⟨t, ht, fun hk => ⟨?_, ?_⟩, fun hk => ⟨?_, ?_⟩⟩ <;> rw [hk] at cond digits
  · rw [cond]
    exact congrArg (_ && ·) ((congrArg (!·) carry).trans (Bool.not_not _))
  · refine written_of_targetValue (P := fun D => DecimalIn m D ∧ decimalValue D m.start n = (nx + ny) % 10 ^ n)
      fun written => ?_
    rw [← sum]
    exact decimalValue_of_written (.inl rfl) hX hY (digits written)
  · rw [cond]
    exact congrArg (_ && ·) ((congrArg (!·) borrow).trans (Bool.not_not _))
  · refine written_of_targetValue (P := fun D => DecimalIn m D ∧ decimalValue D m.start n = (nx + 10 ^ n - ny) % 10 ^ n)
      fun written => ?_
    rw [← difference]
    exact decimalValue_of_written (.inr rfl) hX hY (digits written)

end Sys2Proof.Machine
end

section
/-!
SUPPORT. The decoder's entry, for every instruction: an instruction that is not a branch marker depends on JUMP and COND
only through the re-arm, and keeps the JUMP the re-arm has cleared; the branch marker has no entry (41_branch.md R181,
R182).
-/
namespace Sys2Proof.Machine

open Sys2Proof

/-! JUMP: cleared by the re-arm, and kept by every operation after it -/

@[simp] theorem rearm_jump (s : State) : (rearm s).jump = false := by
  rw [rearm_eq_entered]
  rfl

@[simp] theorem waitDigit_jump (b : BitVec 4) (s : State) : (waitDigit b s).1.jump = s.jump := by
  obtain ⟨-, h⟩ | ⟨-, h⟩ := waitDigit_spec b s <;> rw [h]

@[simp] theorem fullScan_jump (mask : KeyRow) (s : State) : (fullScan mask s).1.jump = s.jump := by
  obtain ⟨-, h⟩ | ⟨-, -, h⟩ | ⟨-, -, h⟩ := fullScan_spec mask s <;> rw [h]

@[simp] theorem alu_jump (k : Kind) (X Y : Digits) (t : Target) (m : MaskDesc) (s : State) :
    (alu k X Y t m s).jump = s.jump := by
  unfold alu
  split
  · rfl
  · exact setTarget_jump s t _

@[simp] theorem arithOn_jump (k : Kind) (X Y : Digits) (m : MaskDesc) (dst : Dest) (s : State) :
    (arithOn k X Y m dst s).jump = s.jump := by
  cases dst with
  | io =>
    rw [arithOn_io]
    exact alu_jump k X Y .ioOut m { s with ioOut := zeroDigits }
  | a | b | c | d => rw [arithOn_reg (h := rfl), alu_jump]
  | xab | xcd | xae => rw [arithOn_exchange (h := rfl), exchange_jump, alu_jump]

@[simp] theorem arithEntry_jump (j : Fin 32) (mi : BitVec 4) (dst : Dest) (s : State) :
    (arithEntry j mi dst s).jump = s.jump := by
  unfold arithEntry
  rw [arith_eq, arithOn_jump]

/-- Every instruction but the branch marker leaves JUMP 0. -/
theorem exec_clears_jump {i : Instr} (hi : instrClass i ≠ .branch) (s : State) :
    ∃ t, exec i s = .next t ∧ t.jump = false := by
  have cleared := rearm_jump s
  cases i with
  | br => exact absurd rfl hi
  | tfa | tfb | tkr | ktest => exact ⟨_, rfl, (clearCondIf_jump ..).trans cleared⟩
  | kscan => exact ⟨_, rfl, (fullScan_jump ..).trans cleared⟩
  | waitd => exact ⟨_, rfl, (waitDigit_jump ..).trans cleared⟩
  | tbusy => exact ⟨_, rfl, by split <;> exact cleared⟩
  | frsv | waitbusy | wrsv14 | wrsv15 | sfa | zfa | ifa | xfab | skr | cfab | r5fa | sfb | zfb | ifb | zkr | cfba | r5fb
  | clridle | clrfa | inckr | far5 | fbr5 | ldr5 | krr5 | r5kr | setidle | clrfb | extkr | xkrsr =>
    exact ⟨_, rfl, cleared⟩
  | addAK | subAK | add0B | sub0B | addCK | subCK | add0D | sub0D | shlA | shrA | shlB | shrB | shlC | shrC | shlD
  | shrD | addAB | subAB | addCB | subCB | addCD | subCD | addAD | subAD | addAIO | subAIO | add0K | sub0K | addCIO
  | subCIO | addR5 | subR5 =>
    exact ⟨_, rfl, (arithEntry_jump ..).trans cleared⟩

/-! The entry: the state an instruction acts on -/

theorem rearm_of_jump_clear {s : State} (h : s.jump = false) : rearm s = s := by
  unfold rearm
  rw [h]
  rfl

/-- An instruction that is not a branch marker acts as it does on the re-armed state: with JUMP 0 that is the state
itself; with JUMP 1 its own re-arm leads there. -/
theorem exec_rearm {i : Instr} (hi : instrClass i ≠ .branch) (s : State) : exec i (rearm s) = exec i s := by
  cases hj : s.jump with
  | false => rw [rearm_of_jump_clear hj]
  | true =>
    cases s
    cases hj
    cases i with
    | br => exact absurd rfl hi
    | _ => rfl

/-- The re-arm in the words of R182: COND <- 1 where JUMP is 1. -/
theorem rearm_eq_of_jump (s : State) :
    rearm s = { s with jump := false, cond := if s.jump = true then true else s.cond } := by
  rw [rearm_eq_entered, entered]
  cases s.jump <;> simp

theorem exec_br (x : BitVec 12) (s : State) : exec (.br x) s = .next { s with jump := true } := rfl

theorem instrClass_eq_branch_iff (i : Instr) : instrClass i = .branch ↔ ∃ x, i = .br x := by
  cases i with
  | br x => exact ⟨fun _ => ⟨x, rfl⟩, fun _ => rfl⟩
  | _ => exact ⟨nofun, nofun⟩

/-! The statements of 41_branch.md -/

/-- Settles O28: a branch marker only sets JUMP; every other instruction goes through the re-arm, after which nothing
writes JUMP. -/
theorem rearmOnEntry : Obligations.RearmOnEntry := by
  intro i s
  by_cases hi : instrClass i = .branch
  · obtain ⟨x, rfl⟩ := (instrClass_eq_branch_iff i).mp hi
    exact ⟨_, exec_br x s, fun h => absurd hi h, fun _ => ⟨rfl, rfl⟩⟩
  · obtain ⟨t, ht, jump⟩ := exec_clears_jump hi s
    refine ⟨t, ht, fun _ => ⟨jump, ?_⟩, fun h => absurd h hi⟩
    rw [← rearm_eq_of_jump, exec_rearm hi, ht]

/-- The word of a branch marker: bit 12 above the operand. -/
theorem encode_br (x : BitVec 12) : encode (.br x) = BitVec.ofNat 13 (0x1000 + x.toNat) := by
  have hx := x.isLt
  apply BitVec.eq_of_toNat_eq
  change (1#1 ++ x).toNat = _
  rw [BitVec.toNat_append, ← Nat.shiftLeft_add_eq_or_of_lt hx]
  exact (Nat.mod_eq_of_lt (by omega)).symm

/-- Settles O33: the branch marker's arm of the encoder, of the classification and of the dispatch. -/
theorem branchMarker : Obligations.BranchMarker :=
  fun x s => ⟨⟨encode_br x, rfl⟩, fun _ => rfl, exec_br x s⟩

end Sys2Proof.Machine
end

section
/-!
SUPPORT. The flag micro-operations of 42_flag_ops.md and the flag, nibble and reserved slots of 44_wait_ops.md: the
number of a word of format FL and WT, the next state of each instruction over the state the decoder's entry leaves, and
the bits of the words they write.
-/
namespace Sys2Proof.Machine

open Sys2Proof

/-! The words: a format's fields, weighted by their places (30_encoding.md R104, R106, R112) -/

theorem toNat_append_eq_add {n m : Nat} (x : BitVec n) (y : BitVec m) :
    (x ++ y).toNat = x.toNat * 2 ^ m + y.toNat := by
  rw [BitVec.toNat_append, ← Nat.shiftLeft_add_eq_or_of_lt y.isLt, Nat.shiftLeft_eq]

theorem encodeFL_eq_ofNat (b n : BitVec 4) : encodeFL b n = BitVec.ofNat 13 (b.toNat * 16 + n.toNat) := by
  apply BitVec.eq_of_toNat_eq
  simp only [encodeFL, toNat_append_eq_add, BitVec.toNat_ofNat]
  omega

theorem encodeWT_eq_ofNat (b n : BitVec 4) : encodeWT b n = BitVec.ofNat 13 (0x0A00 + n.toNat + b.toNat * 16) := by
  apply BitVec.eq_of_toNat_eq
  simp only [encodeWT, toNat_append_eq_add, BitVec.toNat_ofNat]
  omega

theorem encodeWTPair_eq_ofNat (x : BitVec 3) (v : BitVec 1) (n : BitVec 4) :
    encodeWTPair x v n = BitVec.ofNat 13 (0x0A00 + v.toNat * 16 + n.toNat + x.toNat * 32) := by
  apply BitVec.eq_of_toNat_eq
  simp only [encodeWTPair, toNat_append_eq_add, BitVec.toNat_ofNat]
  omega

/-! The bits of a nibble, in the bounds the rules write -/

theorem getLsbD_putNibble_le (w : Word16) (lo : Nat) (v : Digit) (k : Nat) (hlo : lo ≤ 12) :
    (putNibble w lo v).getLsbD k = if lo ≤ k ∧ k ≤ lo + 3 then v.getLsbD (k - lo) else w.getLsbD k := by
  simp only [getLsbD_putNibble w lo v k hlo, ← Nat.lt_succ_iff]

theorem getLsbD_nibbleAt_fin (w : Word16) (lo : Nat) (k : Fin 4) :
    (nibbleAt w lo).getLsbD k = w.getLsbD (k + lo) := by
  rw [getLsbD_nibbleAt, decide_eq_true k.isLt, Bool.true_and, Nat.add_comm]

/-! The next states. Every instruction here is one update of the state that its entry leaves (41_branch.md R182) -/

theorem exec_eq_of_rearm {i : Instr} (f : State → State) {s : State} (h : exec i s = .next (f (rearm s))) :
    exec i s = .next (f (entered s)) := by
  rw [h, rearm_eq_entered]

theorem exec_test {i : Instr} (hit : State → Bool) {s : State}
    (h : exec i s = .next (clearCondIf (hit (rearm s)) (rearm s))) :
    exec i s = .next { entered s with cond := (s.cond || s.jump) && !hit (entered s) } := by
  rw [exec_eq_of_rearm (fun t => clearCondIf (hit t) t) h, clearCondIf_eq]
  rfl

section
variable (b : BitVec 4) (x : BitVec 3) (s : State)

theorem exec_tfa :
    exec (.tfa b) s = .next { entered s with cond := (s.cond || s.jump) && !s.fA.getLsbD b.toNat } :=
  exec_test (fun t => bitOf t.fA b) rfl

theorem exec_tfb :
    exec (.tfb b) s = .next { entered s with cond := (s.cond || s.jump) && !s.fB.getLsbD b.toNat } :=
  exec_test (fun t => bitOf t.fB b) rfl

theorem exec_tkr :
    exec (.tkr b) s = .next { entered s with cond := (s.cond || s.jump) && !s.kr.getLsbD b.toNat } :=
  exec_test (fun t => bitOf t.kr b) rfl

theorem exec_sfa : exec (.sfa b) s = .next { entered s with fA := setBit s.fA b } :=
  exec_eq_of_rearm (fun t => { t with fA := setBit t.fA b }) rfl

theorem exec_zfa : exec (.zfa b) s = .next { entered s with fA := clearBit s.fA b } :=
  exec_eq_of_rearm (fun t => { t with fA := clearBit t.fA b }) rfl

theorem exec_ifa : exec (.ifa b) s = .next { entered s with fA := invertBit s.fA b } :=
  exec_eq_of_rearm (fun t => { t with fA := invertBit t.fA b }) rfl

theorem exec_sfb : exec (.sfb b) s = .next { entered s with fB := setBit s.fB b } :=
  exec_eq_of_rearm (fun t => { t with fB := setBit t.fB b }) rfl

theorem exec_zfb : exec (.zfb b) s = .next { entered s with fB := clearBit s.fB b } :=
  exec_eq_of_rearm (fun t => { t with fB := clearBit t.fB b }) rfl

theorem exec_ifb : exec (.ifb b) s = .next { entered s with fB := invertBit s.fB b } :=
  exec_eq_of_rearm (fun t => { t with fB := invertBit t.fB b }) rfl

theorem exec_skr : exec (.skr b) s = .next { entered s with kr := setBit s.kr b } :=
  exec_eq_of_rearm (fun t => { t with kr := setBit t.kr b }) rfl

theorem exec_zkr : exec (.zkr b) s = .next { entered s with kr := clearBit s.kr b } :=
  exec_eq_of_rearm (fun t => { t with kr := clearBit t.kr b }) rfl

theorem exec_xfab :
    exec (.xfab b) s =
      .next { entered s with fA := putBit s.fA b (bitOf s.fB b), fB := putBit s.fB b (bitOf s.fA b) } :=
  exec_eq_of_rearm
    (fun t => { t with fA := putBit t.fA b (bitOf t.fB b), fB := putBit t.fB b (bitOf t.fA b) }) rfl

theorem exec_cfab : exec (.cfab b) s = .next { entered s with fB := putBit s.fB b (bitOf s.fA b) } :=
  exec_eq_of_rearm (fun t => { t with fB := putBit t.fB b (bitOf t.fA b) }) rfl

theorem exec_cfba : exec (.cfba b) s = .next { entered s with fA := putBit s.fA b (bitOf s.fB b) } :=
  exec_eq_of_rearm (fun t => { t with fA := putBit t.fA b (bitOf t.fB b) }) rfl

theorem exec_r5fa : exec (.r5fa b) s = .next { entered s with fA := putNibble s.fA 1 s.r5 } :=
  exec_eq_of_rearm (fun t => { t with fA := putNibble t.fA 1 t.r5 }) rfl

theorem exec_r5fb : exec (.r5fb b) s = .next { entered s with fB := putNibble s.fB 1 s.r5 } :=
  exec_eq_of_rearm (fun t => { t with fB := putNibble t.fB 1 t.r5 }) rfl

theorem exec_r5kr : exec (.r5kr x) s = .next { entered s with kr := putNibble s.kr 4 s.r5 } :=
  exec_eq_of_rearm (fun t => { t with kr := putNibble t.kr 4 t.r5 }) rfl

theorem exec_far5 : exec (.far5 x) s = .next { entered s with r5 := nibbleAt s.fA 1 } :=
  exec_eq_of_rearm (fun t => { t with r5 := nibbleAt t.fA 1 }) rfl

theorem exec_fbr5 : exec (.fbr5 x) s = .next { entered s with r5 := nibbleAt s.fB 1 } :=
  exec_eq_of_rearm (fun t => { t with r5 := nibbleAt t.fB 1 }) rfl

theorem exec_krr5 : exec (.krr5 x) s = .next { entered s with r5 := nibbleAt s.kr 4 } :=
  exec_eq_of_rearm (fun t => { t with r5 := nibbleAt t.kr 4 }) rfl

theorem exec_frsv : exec (.frsv b) s = .next (entered s) := exec_eq_of_rearm id rfl

theorem exec_waitbusy : exec (.waitbusy b) s = .next (entered s) := exec_eq_of_rearm id rfl

theorem exec_wrsv14 : exec (.wrsv14 b) s = .next (entered s) := exec_eq_of_rearm id rfl

theorem exec_wrsv15 : exec (.wrsv15 b) s = .next (entered s) := exec_eq_of_rearm id rfl

end

/-! The statements -/

/-- A bit that moves from word v into bit b of word w: what XFAB, CFAB and CFBA do to the word they write. -/
theorem getLsbD_putBit_bitOf (w v : Word16) (b : BitVec 4) (k : Nat) :
    (putBit w b (bitOf v b)).getLsbD k = if k = b.toNat then v.getLsbD k else w.getLsbD k := by
  rw [getLsbD_putBit]
  split
  · next hk => rw [hk, bitOf]
  · rfl

/-- Settles O35: the next state of each of the eight, and the bits of the word it writes. -/
theorem bitWrites : Obligations.BitWrites := fun b s =>
  ⟨⟨encodeFL_eq_ofNat b 1, rfl⟩, ⟨_, exec_sfa b s, fun k => getLsbD_setBit s.fA b k⟩,
    ⟨encodeFL_eq_ofNat b 2, rfl⟩, ⟨_, exec_zfa b s, fun k => getLsbD_clearBit s.fA b k⟩,
    ⟨encodeFL_eq_ofNat b 3, rfl⟩, ⟨_, exec_ifa b s, fun k => getLsbD_invertBit s.fA b k⟩,
    ⟨encodeFL_eq_ofNat b 9, rfl⟩, ⟨_, exec_sfb b s, fun k => getLsbD_setBit s.fB b k⟩,
    ⟨encodeFL_eq_ofNat b 10, rfl⟩, ⟨_, exec_zfb b s, fun k => getLsbD_clearBit s.fB b k⟩,
    ⟨encodeFL_eq_ofNat b 11, rfl⟩, ⟨_, exec_ifb b s, fun k => getLsbD_invertBit s.fB b k⟩,
    ⟨encodeFL_eq_ofNat b 5, rfl⟩, ⟨_, exec_skr b s, fun k => getLsbD_setBit s.kr b k⟩,
    ⟨encodeFL_eq_ofNat b 13, rfl⟩, ⟨_, exec_zkr b s, fun k => getLsbD_clearBit s.kr b k⟩⟩

/-- Settles O36: each word written takes bit b of the other word; XFAB reads both before it writes either. -/
theorem bitExchangeAndCopies : Obligations.BitExchangeAndCopies := fun b s =>
  have toA := fun k : Fin 16 => getLsbD_putBit_bitOf s.fA s.fB b k
  have toB := fun k : Fin 16 => getLsbD_putBit_bitOf s.fB s.fA b k
  ⟨⟨encodeFL_eq_ofNat b 4, rfl⟩, ⟨_, _, exec_xfab b s, toA, toB⟩,
    ⟨encodeFL_eq_ofNat b 6, rfl⟩, ⟨_, exec_cfab b s, toB⟩,
    ⟨encodeFL_eq_ofNat b 14, rfl⟩, ⟨_, exec_cfba b s, toA⟩⟩

/-- Settles O37: three moves write the nibble of R5 into a word, three read it out of one. -/
theorem nibbleMoves : Obligations.NibbleMoves := fun b x s =>
  ⟨⟨encodeFL_eq_ofNat b 7, rfl⟩,
    ⟨_, exec_r5fa b s, fun k => getLsbD_putNibble_le s.fA 1 s.r5 k (by decide)⟩,
    ⟨encodeFL_eq_ofNat b 15, rfl⟩,
    ⟨_, exec_r5fb b s, fun k => getLsbD_putNibble_le s.fB 1 s.r5 k (by decide)⟩,
    ⟨encodeWTPair_eq_ofNat x 0 6, rfl⟩, ⟨_, exec_far5 x s, getLsbD_nibbleAt_fin s.fA 1⟩,
    ⟨encodeWTPair_eq_ofNat x 1 6, rfl⟩, ⟨_, exec_fbr5 x s, getLsbD_nibbleAt_fin s.fB 1⟩,
    ⟨encodeWTPair_eq_ofNat x 0 8, rfl⟩, ⟨_, exec_krr5 x s, getLsbD_nibbleAt_fin s.kr 4⟩,
    ⟨encodeWTPair_eq_ofNat x 1 8, rfl⟩,
    ⟨_, exec_r5kr x s, fun k => getLsbD_putNibble_le s.kr 4 s.r5 k (by decide)⟩⟩

/-- Settles O34: the three tests of one bit. -/
theorem bitTests : Obligations.BitTests := fun b s =>
  ⟨⟨encodeFL_eq_ofNat b 0, rfl⟩, exec_tfa b s,
    ⟨encodeFL_eq_ofNat b 8, rfl⟩, exec_tfb b s,
    ⟨encodeWT_eq_ofNat b 5, rfl⟩, exec_tkr b s⟩

/-- Settles O38: the four reserved slots run the entry and no update after it. -/
theorem reservedWordsDoNothing : Obligations.ReservedWordsDoNothing := fun b s =>
  ⟨⟨encodeFL_eq_ofNat b 12, rfl⟩, exec_frsv b s,
    ⟨encodeWT_eq_ofNat b 3, rfl⟩, exec_waitbusy b s,
    ⟨encodeWT_eq_ofNat b 14, rfl⟩, exec_wrsv14 b s,
    ⟨encodeWT_eq_ofNat b 15, rfl⟩, exec_wrsv15 b s⟩

end Sys2Proof.Machine
end

section
/-!
SUPPORT. The keyboard class of 43_keyboard.md: the number of a word of format KY, what the view of the key row under a
scan mask can be, the code a hit loads into KR, and the two instructions over the state the decoder's entry leaves.
-/
namespace Sys2Proof.Machine

open Sys2Proof

/-- The word of format KY (30_encoding.md R105): the mask's two parts stand on either side of the sub-mode bit. -/
theorem encodeKY_eq_ofNat (mask : KeyRow) (f : BitVec 1) :
    encodeKY mask f = BitVec.ofNat 13 (0x0800 + f.toNat * 8 + mask.toNat / 8 * 16 + mask.toNat % 8) := by
  apply BitVec.eq_of_toNat_eq
  simp only [encodeKY, toNat_append_eq_add, BitVec.toNat_ofNat, BitVec.extractLsb'_toNat, Nat.shiftRight_eq_div_pow]
  omega

/-! The view of the key row (R222): a row of which one bit is set, or no key -/

theorem eq_of_popcount_le_one {v : KeyRow} (h : popcount v ≤ 1) {i j : Fin 7} (hi : v.getLsbD i = true)
    (hj : v.getLsbD j = true) : i = j := by
  by_contra distinct
  have both : [i.val, j.val].length ≤ popcount v :=
    (List.subperm_of_subset (by simpa using Fin.val_ne_of_ne distinct) (by simp [hi, hj])).length_le
  exact absurd (both.trans h) (Nat.not_succ_le_self 1)

theorem popcount_twoPow (n : Fin 7) : popcount (BitVec.twoPow 7 n) = 1 := by
  revert n; decide

theorem twoPow_ne_zero (n : Fin 7) : BitVec.twoPow 7 n ≠ 0 := by
  revert n; decide

theorem bitIndex_twoPow (n : Fin 7) : bitIndex (BitVec.twoPow 7 n) = BitVec.ofNat 4 n := by
  revert n; decide

theorem eq_twoPow_iff (v : KeyRow) (n : Fin 7) :
    v = BitVec.twoPow 7 n ↔ ∀ k : Fin 7, v.getLsbD k = true ↔ k = n := by
  have bit (k : Fin 7) : (BitVec.twoPow 7 n).getLsbD k = true ↔ k = n := by
    simp [Fin.ext_iff, eq_comm]
  constructor
  · rintro rfl
    exact bit
  · intro h
    exact BitVec.eq_of_getLsbD_eq fun i hi => Bool.eq_iff_iff.mpr ((h ⟨i, hi⟩).trans (bit ⟨i, hi⟩).symm)

/-- At most one bit set is no bit, or one. -/
theorem eq_twoPow_of_popcount_le_one {v : KeyRow} (h : popcount v ≤ 1) (hv : v ≠ 0) :
    ∃ n : Fin 7, v = BitVec.twoPow 7 n := by
  have some_bit : ∃ n : Fin 7, v.getLsbD n = true := by
    by_contra none
    exact hv (BitVec.eq_of_getLsbD_eq fun i hi => by simpa using not_exists.mp none ⟨i, hi⟩)
  obtain ⟨n, hn⟩ := some_bit
  exact ⟨n, (eq_twoPow_iff v n).mpr fun k => ⟨fun hk => eq_of_popcount_le_one h hk hn, fun hk => hk ▸ hn⟩⟩

section
variable (mask : KeyRow) (s : State)

/-- A bit of the masked row is a pressed key, for either polarity of the key line. -/
theorem getLsbD_keys_and_mask (n : Fin 7) : (s.keys &&& mask).getLsbD n = pressed s mask n := by
  unfold State.keys pressed
  cases s.cfg.keyInvert <;> simp

theorem onlyKey_iff (n : Fin 7) : OnlyKey s mask n ↔ s.keys &&& mask = BitVec.twoPow 7 n := by
  rw [eq_twoPow_iff]
  simp only [getLsbD_keys_and_mask]

variable {mask s} in
theorem keyView_of_onlyKey {n : Fin 7} (h : OnlyKey s mask n) :
    s.keyView mask = BitVec.twoPow 7 n := by
  unfold State.keyView
  rw [(onlyKey_iff mask s n).mp h, popcount_twoPow, if_neg (by decide)]

variable {mask s} in
theorem keyView_of_not_onlyKey (h : ¬ ∃ n, OnlyKey s mask n) : s.keyView mask = 0 := by
  unfold State.keyView
  split
  · rfl
  · next several =>
    by_contra some_key
    obtain ⟨n, hn⟩ := eq_twoPow_of_popcount_le_one (Nat.le_of_not_lt several) some_key
    exact h ⟨n, (onlyKey_iff mask s n).mpr hn⟩

/-- A hit is exactly one pressed key under the mask. -/
theorem keyHit_iff : s.keyHit mask = true ↔ ∃ n, OnlyKey s mask n := by
  unfold State.keyHit
  rw [bne_iff_ne]
  constructor
  · exact fun hit => Classical.byContradiction fun h => hit (keyView_of_not_onlyKey h)
  · rintro ⟨n, hn⟩
    rw [keyView_of_onlyKey hn]
    exact twoPow_ne_zero n

theorem keyHit_eq_false_iff : s.keyHit mask = false ↔ ¬ ∃ n, OnlyKey s mask n := by
  rw [← keyHit_iff, Bool.not_eq_true]

end

/-! The key code (R224): DIGIT and the bit index do not overlap -/

theorem keyCode_eq_ofNat (digit : BitVec 4) (view : KeyRow) :
    keyCode digit view = BitVec.ofNat 16 (digit.toNat * 256 + (bitIndex view).toNat * 16) := by
  have hd := digit.isLt
  have hb := (bitIndex view).isLt
  have apart : digit.toNat * 256 ||| (bitIndex view).toNat * 16 = digit.toNat * 256 + (bitIndex view).toNat * 16 := by
    simpa [Nat.shiftLeft_eq] using
      (Nat.shiftLeft_add_eq_or_of_lt (a := digit.toNat) (show (bitIndex view).toNat * 16 < 2 ^ 8 by omega)).symm
  apply BitVec.eq_of_toNat_eq
  rw [keyCode, BitVec.toNat_or, BitVec.toNat_ofNat, Nat.mod_eq_of_lt (by omega), ← apart]
  simp only [BitVec.toNat_shiftLeft, BitVec.toNat_setWidth, Nat.shiftLeft_eq]
  congr 1 <;> omega

theorem keyCode_twoPow (digit : BitVec 4) (n : Fin 7) :
    keyCode digit (BitVec.twoPow 7 n) = BitVec.ofNat 16 (digit.toNat * 256 + n.val * 16) := by
  rw [keyCode_eq_ofNat, bitIndex_twoPow, BitVec.toNat_ofNat, Nat.mod_eq_of_lt (by omega)]

/-! The full scan: which of its outcomes it is, by the keys pressed under the mask -/

section
variable {mask : KeyRow} {s : State}

theorem fullScan_of_onlyKey {n : Fin 7} (h : OnlyKey s mask n) :
    fullScan mask s =
      ({ s with cond := false, kr := BitVec.ofNat 16 (s.digit.toNat * 256 + n.val * 16) }, .completed) := by
  have hit := (keyHit_iff mask s).mpr ⟨n, h⟩
  simpa [hit, keyView_of_onlyKey h, keyCode_twoPow] using fullScan_spec mask s

theorem fullScan_of_miss (h : ¬ ∃ n, OnlyKey s mask n) (nonzero : s.digit ≠ 0) :
    fullScan mask s = ({ s with hold := true }, .needsHold) := by
  have miss := (keyHit_eq_false_iff mask s).mpr h
  simpa [miss, show s.digit ≠ 0#4 from nonzero] using fullScan_spec mask s

theorem fullScan_of_miss_at_zero (h : ¬ ∃ n, OnlyKey s mask n) (zero : s.digit = 0) :
    fullScan mask s = (s, .completed) := by
  have miss := (keyHit_eq_false_iff mask s).mpr h
  simpa [miss, zero] using fullScan_spec mask s

end

/-! The two instructions -/

section
variable (mask : KeyRow) (s : State)

theorem exec_kscan : exec (.kscan mask) s = .next (fullScan mask (entered s)).1 :=
  exec_eq_of_rearm (fun t => (fullScan mask t).1) rfl

theorem controlResult_kscan : controlResult (.kscan mask) s = (fullScan mask (entered s)).2 := by
  rw [← rearm_eq_entered]
  rfl

variable {mask s} in
theorem kscan_of_fullScan {t : State} {c : CtrlResult} (h : fullScan mask (entered s) = (t, c)) :
    exec (.kscan mask) s = .next t ∧ controlResult (.kscan mask) s = c := by
  rw [exec_kscan, controlResult_kscan, h]
  exact ⟨rfl, rfl⟩

theorem exec_ktest :
    exec (.ktest mask) s = .next { entered s with cond := (s.cond || s.jump) && !s.keyHit mask } :=
  exec_test (fun t => t.keyHit mask) rfl

end

/-- Settles O44: the three outcomes of the full scan, in the state the entry leaves; the entry touches neither the key
row nor DIGIT. -/
theorem fullKeyboardScan : Obligations.FullKeyboardScan := fun mask s =>
  ⟨encodeKY_eq_ofNat mask 1,
    fun n (only : OnlyKey (entered s) mask n) => kscan_of_fullScan (fullScan_of_onlyKey only),
    fun (miss : ¬ ∃ n, OnlyKey (entered s) mask n) =>
      ⟨fun nonzero => kscan_of_fullScan (fullScan_of_miss miss nonzero),
        fun zero => kscan_of_fullScan (fullScan_of_miss_at_zero miss zero)⟩⟩

/-- Settles O45: a hit is all that the next state turns on, and it clears COND. -/
theorem keyboardRowTest : Obligations.KeyboardRowTest := by
  intro mask s
  refine ⟨⟨encodeKY_eq_ofNat mask 0, rfl⟩, fun only => ?_, fun miss => ?_⟩
  · rw [exec_ktest, (keyHit_iff mask s).mpr only, Bool.not_true, Bool.and_false]
  · rw [exec_ktest, (keyHit_eq_false_iff mask s).mpr miss, Bool.not_false, Bool.and_true]
    rfl

end Sys2Proof.Machine
end

section
/-!
SUPPORT. The rest of the wait class, 44_wait_ops.md: the writes of a whole register or flag, the increment of KR as a step
of the payload that KR publishes, the key row that TBUSY tests, and the digit-cycles WAITD lets pass.
-/
namespace Sys2Proof.Machine

open Sys2Proof

/-! A whole register or flag (R243, R244, R250, R254, R255, R258): one update of the state the entry leaves -/

section
variable (b : BitVec 4) (s : State)

theorem exec_clrfa : exec (.clrfa b) s = .next { entered s with fA := 0 } :=
  exec_eq_of_rearm (fun t => { t with fA := 0 }) rfl

theorem exec_clrfb : exec (.clrfb b) s = .next { entered s with fB := 0 } :=
  exec_eq_of_rearm (fun t => { t with fB := 0 }) rfl

theorem exec_ldr5 : exec (.ldr5 b) s = .next { entered s with r5 := b } :=
  exec_eq_of_rearm (fun t => { t with r5 := b }) rfl

theorem exec_setidle : exec (.setidle b) s = .next { entered s with idle := true } :=
  exec_eq_of_rearm (fun t => { t with idle := true }) rfl

theorem exec_clridle : exec (.clridle b) s = .next { entered s with idle := false } :=
  exec_eq_of_rearm (fun t => { t with idle := false }) rfl

theorem exec_xkrsr : exec (.xkrsr b) s = .next { entered s with kr := s.sr, sr := s.kr } :=
  exec_eq_of_rearm (fun t => { t with kr := t.sr, sr := t.kr }) rfl

end

/-- Settles O39: the next state of each of the six. -/
theorem wholeRegisterOps : Obligations.WholeRegisterOps := fun b s =>
  ⟨⟨encodeWT_eq_ofNat b 2, rfl⟩, exec_clrfa b s,
    ⟨encodeWT_eq_ofNat b 10, rfl⟩, exec_clrfb b s,
    ⟨encodeWT_eq_ofNat b 7, rfl⟩, exec_ldr5 b s,
    ⟨encodeWT_eq_ofNat b 9, rfl⟩, exec_setidle b s,
    ⟨encodeWT_eq_ofNat b 1, rfl⟩, exec_clridle b s,
    ⟨encodeWT_eq_ofNat b 13, rfl⟩, exec_xkrsr b s⟩

/-! INCKR (R246). Adding 0x0010 steps the field KR[15:4] and leaves the four bits below it; bit 0, which stands above the
field in the payload, takes the carry out of it -/

section
variable (kr : Word16)

theorem field_add_sixteen : (kr + 0x0010#16).extractLsb' 4 12 = kr.extractLsb' 4 12 + 1#12 := by
  apply BitVec.eq_of_toNat_eq
  simp only [BitVec.extractLsb'_toNat, BitVec.toNat_add, Nat.shiftRight_eq_div_pow, BitVec.toNat_ofNat]
  omega

theorem getLsbD_add_sixteen {k : Nat} (hk : k < 4) : (kr + 0x0010#16).getLsbD k = kr.getLsbD k := by
  have low : (kr + 0x0010#16).setWidth 4 = kr.setWidth 4 := by
    rw [BitVec.setWidth_add _ _ (by decide)]
    exact BitVec.add_zero _
  simpa [BitVec.getLsbD_setWidth, hk] using congrArg (·.getLsbD k) low

theorem incrementKr_eq :
    incrementKr kr = (kr + 0x0010#16) ^^^ if kr.extractLsb' 4 12 + 1#12 = 0#12 then 1#16 else 0#16 := by
  rw [← field_add_sixteen, apply_ite ((kr + 0x0010#16) ^^^ ·), BitVec.xor_zero]
  rfl

theorem field_incrementKr : (incrementKr kr).extractLsb' 4 12 = kr.extractLsb' 4 12 + 1#12 := by
  rw [incrementKr_eq, BitVec.extractLsb'_xor, field_add_sixteen]
  split <;> exact BitVec.xor_zero

theorem getLsbD_incrementKr {k : Nat} (hk : k < 4) :
    (incrementKr kr).getLsbD k = (kr.getLsbD k ^^ decide (k = 0 ∧ kr.extractLsb' 4 12 + 1#12 = 0#12)) := by
  rw [incrementKr_eq, BitVec.getLsbD_xor, getLsbD_add_sixteen kr hk]
  split
  · next wrapped => simp [wrapped, BitVec.getLsbD_one]
  · next unwrapped => simp [unwrapped]

theorem getLsbD_incrementKr_kept {k : Nat} (hk : k < 4) (above : k ≠ 0) :
    (incrementKr kr).getLsbD k = kr.getLsbD k := by
  simp [getLsbD_incrementKr kr hk, above]

theorem payload_incrementKr : payload (incrementKr kr) = (payload kr + 1) % 8192 := by
  unfold payload
  rw [getLsbD_incrementKr kr (by decide), field_incrementKr]
  generalize kr.extractLsb' 4 12 = field
  by_cases wrap : field + 1#12 = 0#12
  · have full : field = 4095#12 := by bv_omega
    cases kr.getLsbD 0 <;> simp [full]
  · have room : (field + 1#12).toNat = field.toNat + 1 := by bv_omega
    have bound : (kr.getLsbD 0).toNat ≤ 1 := Bool.toNat_le _
    simp only [wrap, and_false, decide_false, Bool.xor_false, room]
    omega

end

theorem exec_inckr (b : BitVec 4) (s : State) :
    exec (.inckr b) s = .next { entered s with kr := incrementKr s.kr } :=
  exec_eq_of_rearm (fun t => { t with kr := incrementKr t.kr }) rfl

/-- Settles O40: the payload's top bit takes the carry out of the field below it, and bits 1 to 3 stay. -/
theorem inckrStepsThePayload : Obligations.InckrStepsThePayload := fun b s =>
  have kept {k : Nat} (hk : k < 4) (above : k ≠ 0) := getLsbD_incrementKr_kept s.kr hk above
  ⟨⟨encodeWT_eq_ofNat b 4, rfl⟩, _, exec_inckr b s, payload_incrementKr s.kr,
    kept (by decide) (by decide), kept (by decide) (by decide), kept (by decide) (by decide)⟩

/-! TBUSY (R256): its test of the key row, unmasked, is a pressed key for either polarity of the key line -/

theorem exists_getLsbD_of_ne_zero {w : Nat} {v : BitVec w} (h : v ≠ 0) : ∃ n : Fin w, v.getLsbD n = true := by
  by_contra none
  exact h (BitVec.eq_of_getLsbD_eq fun i hi => by simpa using not_exists.mp none ⟨i, hi⟩)

theorem keys_ne_zero_iff (s : State) : s.keys ≠ 0 ↔ ∃ n : Fin 7, pressed s 0x7F n = true := by
  have unmasked : s.keys &&& 0x7F = s.keys := BitVec.and_allOnes
  simp only [← getLsbD_keys_and_mask, unmasked]
  constructor
  · exact exists_getLsbD_of_ne_zero
  · rintro ⟨n, hn⟩ none
    simp [none] at hn

theorem exec_tbusy (b : BitVec 4) (s : State) :
    exec (.tbusy b) s =
      .next (if s.busy = true ∨ s.keys ≠ 0 then { entered s with cond := false, busy := false } else entered s) :=
  exec_eq_of_rearm (fun t => if t.busy = true ∨ t.keys ≠ 0 then { t with cond := false, busy := false } else t) rfl

/-- Settles O42: the test's two outcomes, with the key row read as pressed keys. -/
theorem busyTest : Obligations.BusyTest := by
  intro b s
  rw [← keys_ne_zero_iff, exec_tbusy]
  refine ⟨⟨encodeWT_eq_ofNat b 11, rfl⟩, fun busy => ?_, fun free => ?_⟩
  · rw [if_pos busy]
  · rw [if_neg free]

/-! WAITD (R242): one digit-cycle ends the wait, and the countdown of DIGIT comes to it within 15 steps -/

section
variable {b : BitVec 4} {s : State}

theorem waitDigit_of_eq (h : s.digit = b) : waitDigit b s = (s, .completed) := by
  simpa [h] using waitDigit_spec b s

theorem waitDigit_of_ne (h : s.digit ≠ b) : waitDigit b s = ({ s with hold := true }, .needsHold) := by
  simpa [h] using waitDigit_spec b s

variable (b s) in
theorem exec_waitd : exec (.waitd b) s = .next (waitDigit b (entered s)).1 :=
  exec_eq_of_rearm (fun t => (waitDigit b t).1) rfl

variable (b s) in
theorem controlResult_waitd : controlResult (.waitd b) s = (waitDigit b (entered s)).2 := by
  rw [← rearm_eq_entered]
  rfl

theorem waitd_of_waitDigit {t : State} {c : CtrlResult} (h : waitDigit b (entered s) = (t, c)) :
    exec (.waitd b) s = .next t ∧ controlResult (.waitd b) s = c := by
  rw [exec_waitd, controlResult_waitd, h]
  exact ⟨rfl, rfl⟩

end

theorem nextDstate_eq_sub_one (d : BitVec 4) : nextDstate d = d - 1 := by
  revert d; decide

theorem nextDstate_iterate (k : Nat) (d : BitVec 4) : nextDstate^[k] d = d - BitVec.ofNat 4 k := by
  induction k generalizing d with
  | zero => simp
  | succ k ih => rw [Function.iterate_succ_apply, ih, nextDstate_eq_sub_one]; bv_omega

/-- The countdown of the digit-cycles meets every digit-cycle within 15 steps (20_memory.md R77). -/
theorem nextDstate_reaches (d b : BitVec 4) : ∃ k ≤ 15, nextDstate^[k] d = b := by
  refine ⟨(d - b).toNat, Nat.le_of_lt_succ (d - b).isLt, ?_⟩
  rw [nextDstate_iterate, BitVec.ofNat_toNat, BitVec.setWidth_eq]
  bv_omega

/-- Settles O43: WAITD's two outcomes in the state the entry leaves, which has the same DIGIT. -/
theorem waitForDigitCycle : Obligations.WaitForDigitCycle := fun b s =>
  ⟨encodeWT_eq_ofNat b 0,
    fun (now : (entered s).digit = b) => waitd_of_waitDigit (waitDigit_of_eq now),
    fun (later : (entered s).digit ≠ b) => waitd_of_waitDigit (waitDigit_of_ne later),
    nextDstate_reaches s.digit b⟩

end Sys2Proof.Machine
end

section
/-!
SUPPORT. The coordinator by phase: which action is the core's in each phase of normal mode that 48_coordinator.md R340
names, everything each of them can do, and the whole step around the two phases that run an instruction.
-/
namespace Sys2Proof.Machine

open Sys2Proof

@[simp] theorem onNext_next (s : State) (f : State → State) : onNext (.next s) f = .next (f s) := rfl

theorem onNext_onNext (o : Result) (f g : State → State) : onNext (onNext o f) g = onNext o fun s => g (f s) := by
  cases o <;> rfl

/-! The actions, each as one update of the state -/

theorem publishIdle_of_write {s : State} (hw : s.bus.write = true) :
    publishIdle s = { s with bus := { s.bus with idle := s.idle } } := by
  simp [publishIdle, hw]

theorem publishIdle_of_read {s : State} (hr : s.bus.write = false) : publishIdle s = s := by
  simp [publishIdle, hr]

theorem s0WriteEnter_eq (s : State) :
    s0WriteEnter s =
      { s with
        digit := s.bus.dstate, extSnap := s.bus.ext, keySnap := s.bus.keyLine
        hold := false, sin := zeroDigits, condL := s.condL || s.cond
        late := isLate s.cfg.operandTable (decode s.ilOp) } := by
  unfold s0WriteEnter
  cases s.cond <;> simp

theorem s1Write_eq (s : State) :
    s1Write s =
      { s with
        condL := false
        bus := { s.bus with ext := if s.condL = true then s.bus.ext ||| 2#16 else s.bus.ext } } := by
  unfold s1Write
  split
  · rfl
  next clear => rw [← Bool.eq_false_iff.mpr clear]

theorem s2Write_eq (s : State) :
    s2Write s = { s with bus := { s.bus with ext := if s.hold = true then s.bus.ext ||| 4#16 else s.bus.ext } } := by
  unfold s2Write
  split <;> rfl

theorem s2Read_eq (s : State) :
    s2Read s = { s with kr := if s.bus.ext.getLsbD 2 = true then s.kr else clearBit s.kr 1 } := by
  unfold s2Read
  split <;> rfl

/-! The core's action in a phase of normal mode -/

section
variable {s : State}

theorem normalPhase_s0Write (hs : s.bus.sstate = 0) (hw : s.bus.write = true) : normalPhase s = s0Write s := by
  simp [normalPhase, hs, hw]

theorem normalPhase_s1Write (hs : s.bus.sstate = 1) (hw : s.bus.write = true) :
    normalPhase s = .next (s1Write s) := by
  simp [normalPhase, hs, hw]

theorem normalPhase_s2Write (hs : s.bus.sstate = 2) (hw : s.bus.write = true) :
    normalPhase s = .next (s2Write s) := by
  simp [normalPhase, hs, hw]

theorem normalPhase_s2Read (hs : s.bus.sstate = 2) (hr : s.bus.write = false) :
    normalPhase s = .next (s2Read s) := by
  simp [normalPhase, hs, hr]

theorem normalPhase_s14Write (hs : s.bus.sstate = 14) (hw : s.bus.write = true) :
    normalPhase s = .next (blankOutputs s) := by
  simp [normalPhase, hs, hw]

theorem normalPhase_s15Read (hs : s.bus.sstate = 15) (hr : s.bus.write = false) : normalPhase s = s15Read s := by
  simp [normalPhase, hs, hr]

end

/-! The step around the core -/

/-- In normal mode a step is the chips before the core, the publication of IDLE, the action of the phase, the chips
after the core, and the sequencer's move. -/
theorem step_normal {s : State} (running : s.ended = false) (normal : s.resetCnt = 0) :
    step s =
      onNext (normalPhase (publishIdle (beforeCore s))) fun t => advance (chipWrites s.writesAfter t) := by
  rw [← coreProcess_normal _ ((beforeCore_resetCnt s).trans normal)]
  exact runPhase_running s running

theorem step_s0Write {s : State} (running : s.ended = false) (normal : s.resetCnt = 0) (at0 : s.AtS0Write) :
    step s =
      onNext (s0WriteExecute (publishIdle (beforeCore s))) fun u =>
        advance (chipWrites s.writesAfter (publishKr (publishIo u))) := by
  have same : SamePhase s.bus (publishIdle (beforeCore s)).bus :=
    (beforeCore_samePhase s).trans (publishIdle_withinPhase _).phase
  obtain ⟨hs, hw⟩ := at0
  rw [step_normal running normal, normalPhase_s0Write (same.sstate.trans hs) (same.write.trans hw), s0Write,
    onNext_onNext]

theorem step_s15Read {s : State} (running : s.ended = false) (normal : s.resetCnt = 0) (at15 : s.AtS15Read) :
    step s = onNext (s15Read (beforeCore s)) fun u => advance (chipWrites s.writesAfter u) := by
  have same := beforeCore_samePhase s
  obtain ⟨hs, hr⟩ := at15
  have read : (beforeCore s).bus.write = false := same.write.trans hr
  rw [step_normal running normal, publishIdle_of_read read, normalPhase_s15Read (same.sstate.trans hs) read]

/-- The early decoder run keeps, of the state S0 write enters it with, all that is not the decoder's. -/
theorem s0WriteExecute_keepsOutsideDecoder {s u : State} (h : s0WriteExecute s = .next u) :
    KeepsOutsideDecoder (s0WriteEnter s) u := by
  obtain ⟨-, hlate⟩ | ⟨-, hearly⟩ := s0WriteExecute_cases s
  · obtain rfl : s0WriteEnter s = u := Host.Outcome.next.inj (hlate.symm.trans h)
    exact .refl _
  · obtain ⟨t, ht, kept⟩ := exec_keepsOutsideDecoder (decode s.ilOp) (s0WriteEnter s)
    obtain rfl : t = u := Host.Outcome.next.inj (ht.symm.trans (hearly.symm.trans h))
    exact kept

end Sys2Proof.Machine
end

section
/-!
SUPPORT. The coordinator's statements of 48_coordinator.md about single phases: the classification of words, the
signalling phases, and the two phases that run an instruction.
-/
namespace Sys2Proof.Machine

open Sys2Proof

/-! The classification (R344) by slots -/

theorem isLate_flagSlots (t : Vector OperandEntry 32) (n : Fin 16) (b : BitVec 4) :
    isLate t (flagSlots[n] b) = false := by
  fin_cases n <;> rfl

theorem waitSlots_twelve {n : BitVec 4} (h : n = 12) (b : BitVec 4) : waitSlots[n.toFin] b = .extkr b := by
  subst h
  rfl

theorem isLate_pairSlot (t : Vector OperandEntry 32) {i0 i1 : BitVec 3 → Instr} (h0 : ∀ x, isLate t (i0 x) = false)
    (h1 : ∀ x, isLate t (i1 x) = false) (b : BitVec 4) : isLate t (pairSlot i0 i1 b) = false := by
  unfold pairSlot
  split
  · exact h1 _
  · exact h0 _

/-- Of the wait operations only slot 12, EXTKR, is late. -/
theorem isLate_waitSlots (t : Vector OperandEntry 32) (n : Fin 16) (b : BitVec 4) :
    isLate t (waitSlots[n] b) = decide (n = 12) := by
  have slots : n = 6 ∨ n = 8 ∨ n ∈ ([0, 1, 2, 3, 4, 5, 7, 9, 10, 11, 12, 13, 14, 15] : List (Fin 16)) := by
    revert n
    decide
  obtain rfl | rfl | single := slots
  · exact isLate_pairSlot t (i0 := .far5) (i1 := .fbr5) (fun _ => rfl) (fun _ => rfl) b
  · exact isLate_pairSlot t (i0 := .krr5) (i1 := .r5kr) (fun _ => rfl) (fun _ => rfl) b
  · fin_cases single <;> rfl

/-- IsEXTKR tests the class of the word and its slot (R340). -/
theorem isExtkr_iff (w : OpWord) : isExtkr w = true ↔ wordClass w = .wait ∧ opN w = 12 := by
  rw [wordClass_eq]
  unfold isExtkr
  split_ifs <;> simp_all

theorem decode_of_wait {w : OpWord} (h : wordClass w = .wait) : decode w = waitSlots[(opN w).toFin] (opB w) := by
  rw [decode_eq, h]

/-- The late words of any operand table: the class decides, then the slot or the operand entry (R344). -/
theorem isLate_decode (t : Vector OperandEntry 32) (w : OpWord) :
    isLate t (decode w) =
      (decide (wordClass w = .wait ∧ opN w = 12) || (decide (wordClass w = .arith) && t[(opJ w).toFin].io)) := by
  rw [decode_eq]
  cases wordClass w with
  | branch => rfl
  | flag => exact isLate_flagSlots t _ _
  | keyboard => dsimp only; split <;> rfl
  | wait => simp [-Fin.getElem_fin, isLate_waitSlots, ← BitVec.toFin_inj]
  | arith => simp [-Fin.getElem_fin, isLate_arInstr]

theorem isExtkr_iff_decode (w : OpWord) : isExtkr w = true ↔ ∃ b, decode w = .extkr b := by
  rw [isExtkr_iff]
  refine ⟨fun ⟨wait, slot⟩ => ⟨opB w, ?_⟩, fun ⟨b, hb⟩ => ?_⟩
  · rw [decode_of_wait wait, waitSlots_twelve slot]
  · have wait : wordClass w = .wait := by rw [← classSelection w, hb]; rfl
    have late : isLate operandTableRef (decode w) = true := by rw [hb]; rfl
    rw [isLate_decode, wait] at late
    exact ⟨wait, by simpa using late⟩

/-- Settles O7, class by class, with the reference table's entries by inspection. -/
theorem lateWords : Obligations.LateWords :=
  ⟨isLate_decode, by decide, isExtkr_iff_decode⟩

/-! The signalling phases (R351 to R354) -/

/-- Settles O16: the action of each of the four phases, after the publication of IDLE. -/
theorem signallingPhases : Obligations.SignallingPhases := by
  intro s normal
  rw [coreProcess_normal s normal]
  have same := (publishIdle_withinPhase s).phase
  refine ⟨fun hs hw => ?_, fun hs hw => ?_, fun hs hr => ?_, fun hs hw => ?_⟩
  · rw [normalPhase_s1Write (same.sstate.trans hs) (same.write.trans hw), s1Write_eq, publishIdle_of_write hw]
  · rw [normalPhase_s2Write (same.sstate.trans hs) (same.write.trans hw), s2Write_eq, publishIdle_of_write hw]
  · rw [publishIdle_of_read hr, normalPhase_s2Read hs hr, s2Read_eq]
    refine ⟨_, rfl, fun b => ?_⟩
    have bit1 : b.val = (1 : BitVec 4).toNat ↔ b = 1 := (Fin.ext_iff (b := 1)).symm
    split
    next seen => simp [seen]
    next unseen => simp only [getLsbD_clearBit, bit1, Bool.eq_false_iff.mpr unseen, and_true]
  · rw [normalPhase_s14Write (same.sstate.trans hs) (same.write.trans hw), blankOutputs, publishIdle_of_write hw]

/-! The phases that run an instruction (R345 to R350, R355 to R357) -/

theorem s0WriteExecute_of_early {s : State} (h : isLate s.cfg.operandTable (decode s.ilOp) = false) :
    s0WriteExecute s = exec (decode s.ilOp) (s0WriteEnter s) := by
  simpa [h] using s0WriteExecute_cases s

theorem s0WriteExecute_of_late {s : State} (h : isLate s.cfg.operandTable (decode s.ilOp) = true) :
    s0WriteExecute s = .next (s0WriteEnter s) := by
  simpa [h] using s0WriteExecute_cases s

/-- Settles O11: the decoder's early run, or nothing, between the entry of S0 write and the publications, which look
at the same pending word. -/
theorem s0WriteRunsEarlyWords : Obligations.S0WriteRunsEarlyWords := by
  intro s running normal at0 b e publish leave
  have hw : b.bus.write = true := (beforeCore_samePhase s).write.trans at0.2
  have ilOp : (publishIdle b).ilOp = s.ilOp := by simp [b]
  have word : isLate (publishIdle b).cfg.operandTable (decode (publishIdle b).ilOp) =
      isLate s.cfg.operandTable (decode s.ilOp) := by simp [b]
  have entry : s0WriteEnter (publishIdle b) = e := by
    rw [s0WriteEnter_eq, word, publishIdle_of_write hw]
  have leaves : ∀ u : State, u.ilOp = s.ilOp →
      advance (chipWrites s.writesAfter (publishKr (publishIo u))) = leave u := by
    intro u same
    simp only [leave, publish, publish_eq, same]
  have at_e : e.ilOp = s.ilOp := beforeCore_ilOp s
  rw [step_s0Write running normal at0]
  refine ⟨fun early => ?_, fun late => ?_⟩
  · obtain ⟨u, hexec, kept⟩ := exec_keepsOutsideDecoder (decode s.ilOp) e
    rw [s0WriteExecute_of_early (word.trans early), ilOp, entry, hexec, onNext_next, onNext_next,
      leaves u (kept.ilOp.trans at_e)]
  · rw [s0WriteExecute_of_late (word.trans late), entry, onNext_next, leaves e at_e]

/-- Where no word is late the fetch is the same as one that clears LATE. -/
theorem fetchLatch_of_not_late {s : State} (h : s.late = false) :
    fetchLatch s =
      { s with
        late := false, ilOp := s.bus.irg, ilAddr := s.bus.fetchAddr
        stopReq := s.stopReq || decide (s.bus.fetchAddr = .stop) } := by
  rw [← h]
  rfl

/-- Settles O12: the late run, or nothing, and then the fetch, from the state and the bus the chips before the core
leave. -/
theorem s15ReadRunsLateWordsAndFetches : Obligations.S15ReadRunsLateWordsAndFetches := by
  intro s running normal at15 b fetch leave
  have latched : b.late = s.late := beforeCore_late s
  have ilOp : b.ilOp = s.ilOp := beforeCore_ilOp s
  rw [step_s15Read running normal at15]
  unfold s15Read
  refine ⟨fun late => ?_, fun early => ?_⟩
  · rw [if_pos (latched.trans late), onNext_onNext, onNext_onNext, runDecoder, ilOp]
    rfl
  · have not_late : b.late = false := latched.trans early
    rw [if_neg (Bool.eq_false_iff.mp not_late), onNext_next, onNext_next, fetchLatch_of_not_late not_late]

end Sys2Proof.Machine
end

section
/-!
SUPPORT. EXT during a normal digit-cycle (48_coordinator.md R360): the number of a phase in its digit-cycle, what the
core and the other chips make of EXT in one phase, and the 32 phases from S0 write to S15 read in a row.
-/
namespace Sys2Proof.Machine

open Sys2Proof

/-! The number of a phase: 0 for S0 write, 31 for S15 read (20_memory.md R76, R77) -/

/-- The number in its digit-cycle of the phase the bus names. -/
def Bus.phaseNo (b : Bus) : Nat := 2 * b.sstate.toNat + (!b.write).toNat

theorem phaseNo_eq_even_iff (b : Bus) (k : Nat) : b.phaseNo = 2 * k ↔ b.write = true ∧ b.sstate.toNat = k := by
  unfold Bus.phaseNo
  cases b.write <;> simp
  omega

theorem phaseNo_eq_odd_iff (b : Bus) (k : Nat) : b.phaseNo = 2 * k + 1 ↔ b.write = false ∧ b.sstate.toNat = k := by
  unfold Bus.phaseNo
  cases b.write <;> simp
  omega

theorem phaseNo_eq_zero_iff (s : State) : s.bus.phaseNo = 0 ↔ s.AtS0Write := by
  rw [phaseNo_eq_even_iff _ 0, and_comm]
  exact and_congr_left' (BitVec.toNat_inj (y := 0#4))

theorem phaseNo_eq_last_iff (s : State) : s.bus.phaseNo = 31 ↔ s.AtS15Read := by
  rw [phaseNo_eq_odd_iff _ 15, and_comm]
  exact and_congr_left' (BitVec.toNat_inj (y := 15#4))

theorem SamePhase.phaseNo {b c : Bus} (h : SamePhase b c) : c.phaseNo = b.phaseNo := by
  unfold Bus.phaseNo
  rw [h.sstate, h.write]

/-- Before the last phase of the digit-cycle, with no stop, the sequencer goes on to the next phase and leaves EXT. -/
theorem advance_of_phaseNo_lt {s : State} (hlt : s.bus.phaseNo < 31) (hstop : s.stopReq = false) :
    (advance s).bus.phaseNo = s.bus.phaseNo + 1 ∧ (advance s).bus.ext = s.bus.ext ∧
      (advance s).ended = s.ended := by
  obtain ⟨hw, hu⟩ | ⟨-, stop, -⟩ | ⟨hr, -, h15, hu⟩ | ⟨hr, -, h15, -⟩ := advance_cases s
  · exact ⟨by simp [hu, hw, Bus.phaseNo], by rw [hu], by rw [hu]⟩
  · simp [hstop] at stop
  · have number := (phaseNo_eq_odd_iff s.bus _).mpr ⟨hr, rfl⟩
    have sstate : (s.bus.sstate + 1).toNat = s.bus.sstate.toNat + 1 := by
      rw [BitVec.toNat_add]
      exact Nat.mod_eq_of_lt (by simp; omega)
    rw [hu, number]
    exact ⟨(phaseNo_eq_even_iff _ (s.bus.sstate.toNat + 1)).mpr ⟨rfl, sstate⟩, rfl, rfl⟩
  · have last := (phaseNo_eq_last_iff s).mpr ⟨h15, hr⟩
    omega

/-- From s to t all that EXT and its signals in the phases to come depend on is kept. -/
structure SameSignals (s t : State) : Prop where
  phaseNo : t.bus.phaseNo = s.bus.phaseNo
  ext : t.bus.ext = s.bus.ext
  condL : t.condL = s.condL
  hold : t.hold = s.hold
  resetCnt : t.resetCnt = s.resetCnt
  cfg : t.cfg = s.cfg

theorem SameSignals.refl (s : State) : SameSignals s s := ⟨rfl, rfl, rfl, rfl, rfl, rfl⟩

theorem SameSignals.trans {s t u : State} (h : SameSignals s t) (k : SameSignals t u) : SameSignals s u where
  phaseNo := k.phaseNo.trans h.phaseNo
  ext := k.ext.trans h.ext
  condL := k.condL.trans h.condL
  hold := k.hold.trans h.hold
  resetCnt := k.resetCnt.trans h.resetCnt
  cfg := k.cfg.trans h.cfg

theorem publishIdle_sameSignals (s : State) : SameSignals s (publishIdle s) where
  phaseNo := (publishIdle_withinPhase s).phase.phaseNo
  ext := by rw [publishIdle_eq]
  condL := by simp
  hold := by simp
  resetCnt := by simp
  cfg := by simp

/-! The other chips -/

/-- What holds of the frames of the next phases holds of the frame of the phase to come, and of the frames of the phases
after it. -/
theorem frame_of_forall_take {p : Frame → Prop} {s : State} {n : Nat} (quiet : p Frame.quiet)
    (h : ∀ f ∈ s.env.take (n + 1), p f) : p s.frame ∧ ∀ f ∈ s.env.tail.take n, p f := by
  unfold State.frame
  cases henv : s.env with
  | nil => exact ⟨quiet, by simp⟩
  | cons f fs =>
    rw [henv] at h
    exact ⟨h f (by simp), fun g hg => h g (List.mem_cons_of_mem _ hg)⟩

/-- In the phase to come no other chip on the bus writes EXT. -/
abbrev State.ExtAlone (s : State) : Prop := ∀ c ∈ s.cfg.attached, s.frame.writes c .ext = false

theorem field_ne_of_writes_eq_false {f : Frame} {c : Nat} {b : BusField} (h : f.writes c b = false) :
    ∀ w ∈ (f.action c).writes, w.field ≠ b := by
  simpa [Frame.writes] using h

theorem chipWrites_ext {ws : List BusWrite} (h : ∀ w ∈ ws, w.field ≠ .ext) (s : State) :
    (chipWrites ws s).bus.ext = s.bus.ext := by
  unfold chipWrites
  split
  · exact applyWrites_ext ws s.bus h
  · rfl

theorem beforeCore_sameSignals {s : State} (alone : s.ExtAlone) : SameSignals s (beforeCore s) where
  phaseNo := (beforeCore_samePhase s).phaseNo
  ext := by
    refine chipWrites_ext (fun w hw => ?_) _
    obtain ⟨c, hc, hwc⟩ := List.mem_flatMap.mp hw
    exact field_ne_of_writes_eq_false (alone c (List.mem_append_left _ hc)) w hwc
  condL := by simp
  hold := by simp
  resetCnt := by simp
  cfg := by simp

theorem chipsAfter_sameSignals {s : State} (alone : s.ExtAlone) (t : State) :
    SameSignals t (chipWrites s.writesAfter t) where
  phaseNo := (chipWrites_samePhase _ t).phaseNo
  ext := by
    refine chipWrites_ext (fun w hw => ?_) _
    obtain ⟨c, hc, hwc⟩ := List.mem_flatMap.mp hw
    exact field_ne_of_writes_eq_false (alone c (List.mem_append_right _ hc)) w hwc
  condL := by simp
  hold := by simp
  resetCnt := by simp
  cfg := by simp

theorem beforeCore_env (s : State) : (beforeCore s).env = s.env.tail := by
  obtain ⟨b, hb, -⟩ := beforeCore_spec s
  rw [hb]

/-! The core between S0 write and S15 read -/

/-- From s to t, in the phase the bus names, EXT gets the signals of COND and HOLD (48_coordinator.md R351, R352), and
what decides on them in the phases after it is kept. -/
structure Signals (s t : State) : Prop where
  phaseNo : t.bus.phaseNo = s.bus.phaseNo
  ext : t.bus.ext =
    if s.bus.phaseNo = 2 ∧ s.condL = true then s.bus.ext ||| 2#16
    else if s.bus.phaseNo = 4 ∧ s.hold = true then s.bus.ext ||| 4#16
    else s.bus.ext
  condL : t.condL = (s.condL && decide (s.bus.phaseNo ≠ 2))
  hold : t.hold = s.hold
  resetCnt : t.resetCnt = s.resetCnt
  cfg : t.cfg = s.cfg

/-- In the other phases there is nothing to signal. -/
theorem SameSignals.signals {s t : State} (h : SameSignals s t) (h2 : s.bus.phaseNo ≠ 2) (h4 : s.bus.phaseNo ≠ 4) :
    Signals s t where
  phaseNo := h.phaseNo
  ext := by simp [h.ext, h2, h4]
  condL := by simp [h.condL, h2]
  hold := h.hold
  resetCnt := h.resetCnt
  cfg := h.cfg

theorem Signals.of_sameSignals {s s' t t' : State} (before : SameSignals s s') (h : Signals s' t')
    (after : SameSignals t' t) : Signals s t where
  phaseNo := after.phaseNo.trans (h.phaseNo.trans before.phaseNo)
  ext := by rw [after.ext, h.ext, before.phaseNo, before.ext, before.condL, before.hold]
  condL := by rw [after.condL, h.condL, before.phaseNo, before.condL]
  hold := after.hold.trans (h.hold.trans before.hold)
  resetCnt := after.resetCnt.trans (h.resetCnt.trans before.resetCnt)
  cfg := after.cfg.trans (h.cfg.trans before.cfg)

theorem s1Write_signals {s : State} (h : s.bus.phaseNo = 2) : Signals s (s1Write s) := by
  rw [s1Write_eq]
  exact ⟨rfl, by simp [h], by simp [h], rfl, rfl, rfl⟩

theorem s2Write_signals {s : State} (h : s.bus.phaseNo = 4) : Signals s (s2Write s) := by
  rw [s2Write_eq]
  exact ⟨rfl, by simp [h], by simp [h], rfl, rfl, rfl⟩

theorem s2Read_sameSignals (s : State) : SameSignals s (s2Read s) := by
  constructor <;> simp

theorem blankOutputs_sameSignals (s : State) : SameSignals s (blankOutputs s) := ⟨rfl, rfl, rfl, rfl, rfl, rfl⟩

/-- The core's action in a phase between S0 write and S15 read. -/
theorem normalPhase_signals {s : State} (first : s.bus.phaseNo ≠ 0) (last : s.bus.phaseNo ≠ 31) :
    ∃ t, normalPhase s = .next t ∧ Signals s t ∧ t.env = s.env := by
  unfold normalPhase
  split
  next hw hs => exact absurd ((phaseNo_eq_even_iff _ 0).mpr ⟨hw, hs⟩) first
  next hw hs => exact ⟨_, rfl, s1Write_signals ((phaseNo_eq_even_iff _ 1).mpr ⟨hw, hs⟩), s1Write_env s⟩
  next hw hs => exact ⟨_, rfl, s2Write_signals ((phaseNo_eq_even_iff _ 2).mpr ⟨hw, hs⟩), s2Write_env s⟩
  next hr hs =>
    have at5 := (phaseNo_eq_odd_iff _ 2).mpr ⟨hr, hs⟩
    exact ⟨_, rfl, (s2Read_sameSignals s).signals (by omega) (by omega), s2Read_env s⟩
  next hw hs =>
    have at28 := (phaseNo_eq_even_iff _ 14).mpr ⟨hw, hs⟩
    exact ⟨_, rfl, (blankOutputs_sameSignals s).signals (by omega) (by omega), rfl⟩
  next hr hs => exact absurd ((phaseNo_eq_odd_iff _ 15).mpr ⟨hr, hs⟩) last
  next _ not1 not2 _ _ _ =>
    have silent2 : s.bus.phaseNo ≠ 2 := fun h => ((phaseNo_eq_even_iff _ 1).mp h).elim not1
    have silent4 : s.bus.phaseNo ≠ 4 := fun h => ((phaseNo_eq_even_iff _ 2).mp h).elim not2
    exact ⟨s, rfl, (SameSignals.refl s).signals silent2 silent4, rfl⟩

theorem coreProcess_signals {s : State} (normal : s.resetCnt = 0) (first : s.bus.phaseNo ≠ 0)
    (last : s.bus.phaseNo ≠ 31) : ∃ t, coreProcess s = .next t ∧ Signals s t ∧ t.env = s.env := by
  have idle := publishIdle_sameSignals s
  obtain ⟨t, ht, signals, env⟩ := normalPhase_signals (idle.phaseNo ▸ first) (idle.phaseNo ▸ last)
  exact ⟨t, (coreProcess_normal s normal).trans ht, .of_sameSignals idle signals (.refl t),
    env.trans (publishIdle_env s)⟩

/-! The signals on EXT after n phases of a digit-cycle -/

/-- EXT after the first n phases, at least one: base is what S0 write leaves, cond and hold say what is to be signalled
(48_coordinator.md R360). -/
def signalled (base : Word16) (cond hold : Bool) (n : Nat) : Word16 :=
  let withCond := if cond = true then base ||| 2#16 else base
  let withHold := if hold = true then withCond ||| 4#16 else withCond
  if n ≤ 2 then base else if n ≤ 4 then withCond else withHold

theorem signalled_one (base : Word16) (cond hold : Bool) : signalled base cond hold 1 = base := rfl

/-- Once both signals are on EXT it does not change. -/
theorem signalled_of_lt (base : Word16) (cond hold : Bool) {n : Nat} (h : 4 < n) :
    signalled base cond hold n = signalled base cond hold 5 := by
  have over2 : ¬ n ≤ 2 := by omega
  have over4 : ¬ n ≤ 4 := by omega
  simp [signalled, over2, over4]

theorem signalled_succ (base : Word16) (cond hold : Bool) {n : Nat} (hn : 1 ≤ n) :
    signalled base cond hold (n + 1) =
      if n = 2 ∧ cond = true then signalled base cond hold n ||| 2#16
      else if n = 4 ∧ hold = true then signalled base cond hold n ||| 4#16
      else signalled base cond hold n := by
  obtain rfl | rfl | rfl | rfl | above : n = 1 ∨ n = 2 ∨ n = 3 ∨ n = 4 ∨ 4 < n := by omega
  case inr.inr.inr.inr =>
    rw [signalled_of_lt base cond hold above, signalled_of_lt base cond hold (by omega), if_neg (by omega),
      if_neg (by omega)]
  all_goals simp [signalled]

/-! The phases of a digit-cycle in a row -/

theorem extLeftAlone_succ {s : State} {n : Nat} (h : s.ExtLeftAlone (n + 1)) :
    s.ExtAlone ∧ ∀ t : State, t.cfg = s.cfg → t.env = s.env.tail → t.ExtLeftAlone n := by
  obtain ⟨now, later⟩ := frame_of_forall_take (fun c _ => by simp [Frame.writes, Frame.action]) h
  exact ⟨now, fun t cfg env => by rwa [State.ExtLeftAlone, cfg, env]⟩

theorem noOtherStops_succ {s : State} {n : Nat} (h : s.NoOtherStops (n + 1)) :
    s.othersStop = false ∧ ∀ t : State, t.cfg = s.cfg → t.env = s.env.tail → t.NoOtherStops n := by
  obtain ⟨now, later⟩ := frame_of_forall_take (fun c _ => by simp [Frame.action]) h
  exact ⟨List.any_eq_false.mpr fun c hc => by simp [now c hc],
    fun t cfg env => by rwa [State.NoOtherStops, cfg, env]⟩

/-- The bus names phase k of a normal digit-cycle in which no other chip writes EXT or stops the run, and n phases have
left their signals on EXT: n is k before the core's invocation and k + 1 after it. -/
structure DuringCycle (base : Word16) (cond hold : Bool) (k n : Nat) (t : State) : Prop where
  running : t.ended = false
  normal : t.resetCnt = 0
  phaseNo : t.bus.phaseNo = k
  stopReq : t.stopReq = false
  extLeftAlone : t.ExtLeftAlone (32 - n)
  noOtherStops : t.NoOtherStops (32 - n)
  condL : t.condL = (cond && decide (n ≤ 2))
  holds : t.hold = hold
  ext : t.bus.ext = signalled base cond hold n

section
variable {base : Word16} {cond hold : Bool} {n : Nat} {s : State}

/-- The sequencer's move within the digit-cycle. -/
theorem DuringCycle.advance (h : DuringCycle base cond hold n (n + 1) s) (hn : n < 31) :
    DuringCycle base cond hold (n + 1) (n + 1) (advance s) := by
  obtain ⟨phaseNo, ext, ended⟩ := advance_of_phaseNo_lt (h.phaseNo ▸ hn) h.stopReq
  exact {
    running := ended.trans h.running
    normal := (advance_resetCnt s).trans h.normal
    phaseNo := by rw [phaseNo, h.phaseNo]
    stopReq := (advance_stopReq s).trans h.stopReq
    extLeftAlone := by simpa [State.ExtLeftAlone] using h.extLeftAlone
    noOtherStops := by simpa [State.NoOtherStops] using h.noOtherStops
    condL := (advance_condL s).trans h.condL
    holds := (advance_hold s).trans h.holds
    ext := ext.trans h.ext }

/-- The chips' invocations in a phase between S0 write and S15 read. -/
theorem DuringCycle.invocations (h : DuringCycle base cond hold n n s) (h1 : 1 ≤ n) (h31 : n < 31) :
    ∃ u, Machine.step s = .next (Machine.advance u) ∧ DuringCycle base cond hold n (n + 1) u := by
  have left : 32 - n = (32 - (n + 1)) + 1 := by omega
  obtain ⟨alone, extLater⟩ := extLeftAlone_succ (left ▸ h.extLeftAlone)
  obtain ⟨noStop, stopsLater⟩ := noOtherStops_succ (left ▸ h.noOtherStops)
  have before := beforeCore_sameSignals alone
  have at_n : (beforeCore s).bus.phaseNo = n := before.phaseNo.trans h.phaseNo
  obtain ⟨c, hc, core, env⟩ :=
    coreProcess_signals (before.resetCnt.trans h.normal) (by omega) (at_n ▸ by omega)
  obtain ⟨c', hc', within⟩ := coreProcess_withinPhase (beforeCore s)
  obtain rfl : c = c' := Host.Outcome.next.inj (hc.symm.trans hc')
  have notLast : ¬ (beforeCore s).CoreStops := fun ⟨at15, _⟩ => by
    have at_last := (phaseNo_eq_last_iff _).mpr at15
    omega
  have signals := Signals.of_sameSignals before core (chipsAfter_sameSignals alone c)
  have envAfter : (chipWrites s.writesAfter c).env = s.env.tail := by rw [chipWrites_env, env, beforeCore_env]
  refine ⟨chipWrites s.writesAfter c,
    (runPhase_running s h.running).trans ((onNext_eq_next ..).mpr ⟨c, hc, rfl⟩), ?_⟩
  exact {
    running := by rw [chipWrites_ended, within.ended, beforeCore_ended, h.running]
    normal := signals.resetCnt.trans h.normal
    phaseNo := signals.phaseNo.trans h.phaseNo
    stopReq := by
      rw [chipWrites_stopReq, within.stopReq, beforeCore_stopReq, decide_eq_false notLast, noStop, h.stopReq]
      simp
    extLeftAlone := extLater _ signals.cfg envAfter
    noOtherStops := stopsLater _ signals.cfg envAfter
    condL := by
      have passed : (n ≤ 2 ∧ n ≠ 2) ↔ n + 1 ≤ 2 := by omega
      rw [signals.condL, h.condL, h.phaseNo, Bool.and_assoc, ← Bool.decide_and, decide_eq_decide.mpr passed]
    holds := signals.hold.trans h.holds
    ext := by
      rw [signals.ext, h.phaseNo, h.condL, h.holds, h.ext, signalled_succ _ _ _ h1]
      by_cases h2 : n = 2 <;> simp [h2] }

/-- One phase between S0 write and S15 read. -/
theorem DuringCycle.step (h : DuringCycle base cond hold n n s) (h1 : 1 ≤ n) (h31 : n < 31) :
    ∃ t, Machine.step s = .next t ∧ DuringCycle base cond hold (n + 1) (n + 1) t := by
  obtain ⟨u, hstep, during⟩ := h.invocations h1 h31
  exact ⟨_, hstep, during.advance h31⟩

/-- S15 read: EXT is zeroed behind it, unless the run ends. -/
theorem DuringCycle.last_step (h : DuringCycle base cond hold 31 31 s) :
    ∃ t, Machine.step s = .next t ∧
      t.bus.ext = if t.ended = true then signalled base cond hold 31 else 0 := by
  obtain ⟨h15, hr⟩ := (phaseNo_eq_last_iff s).mp h.phaseNo
  obtain ⟨u, hstep, same, running, -⟩ := step_eq_advance s h.running
  have bus : u.bus = s.bus := same.read hr
  refine ⟨_, hstep, ?_⟩
  obtain ⟨hw, -⟩ | ⟨-, -, hu⟩ | ⟨-, -, inner, -⟩ | ⟨-, -, -, hu⟩ := advance_cases u
  · simp [bus, hr] at hw
  · simp [hu, bus, h.ext]
  · simp [bus, h15] at inner
  · simp [hu, running]

theorem publish_phaseNo (s : State) : (publishKr (publishIo s)).bus.phaseNo = s.bus.phaseNo := by
  rw [publish_eq]
  rfl

theorem publish_ext (s : State) :
    (publishKr (publishIo s)).bus.ext = if isExtkr s.ilOp = true then s.bus.ext else rotr16 s.kr := by
  rw [publish_eq]

/-- S0 write: KR, as the early run u leaves it, is published, but for EXTKR, and COND latched. -/
theorem duringCycle_of_s0Write {u : State} (running : s.ended = false) (normal : s.resetCnt = 0) (at0 : s.AtS0Write)
    (unlatched : s.condL = false) (alone : s.ExtLeftAlone 32) (noStops : s.NoOtherStops 32)
    (run : s0WriteExecute (publishIdle (beforeCore s)) = .next u) :
    ∃ t, Machine.step s = .next t ∧
      DuringCycle (if isExtkr s.ilOp = true then s.bus.ext else rotr16 u.kr) s.cond u.hold 1 1 t := by
  obtain ⟨extAlone, extLater⟩ := extLeftAlone_succ alone
  obtain ⟨noStop, stopsLater⟩ := noOtherStops_succ noStops
  have before := beforeCore_sameSignals extAlone
  have entered := before.trans (publishIdle_sameSignals _)
  have kept := s0WriteExecute_keepsOutsideDecoder run
  have after := chipsAfter_sameSignals extAlone (publishKr (publishIo u))
  refine ⟨_, (step_s0Write running normal at0).trans ((onNext_eq_next ..).mpr ⟨u, run, rfl⟩), ?_⟩
  refine DuringCycle.advance ?_ (by decide)
  have cfg : (chipWrites s.writesAfter (publishKr (publishIo u))).cfg = s.cfg := by simp [kept.cfg]
  have env : (chipWrites s.writesAfter (publishKr (publishIo u))).env = s.env.tail := by
    simp [kept.env, beforeCore_env]
  exact {
    running := by simp [kept.ended, running]
    normal := by simp [kept.resetCnt, normal]
    phaseNo := by
      rw [after.phaseNo, publish_phaseNo, kept.bus, s0WriteEnter_bus, entered.phaseNo]
      exact (phaseNo_eq_zero_iff s).mpr at0
    stopReq := by simp [kept.stopReq, beforeCore_stopReq, at0.2, noStop]
    extLeftAlone := extLater _ cfg env
    noOtherStops := stopsLater _ cfg env
    condL := by simp [kept.condL, s0WriteEnter_eq, unlatched]
    holds := by simp
    ext := by
      rw [after.ext, publish_ext, kept.bus, kept.ilOp, s0WriteEnter_bus, entered.ext, signalled_one]
      simp }

end

/-! Several steps -/

section
variable {M : Host.Core}

theorem run_one (s : M.State) : M.run 1 s = M.step s := by
  rw [Host.Core.run]
  cases M.step s <;> rfl

/-- One more step at the end of a run. -/
theorem run_succ_of_next {n : Nat} {s t : M.State} (h : M.run n s = .next t) : M.run (n + 1) s = M.step t := by
  induction n generalizing s with
  | zero =>
    obtain rfl : s = t := Host.Outcome.next.inj h
    exact run_one s
  | succ n ih =>
    rw [Host.Core.run] at h ⊢
    cases first : M.step s with
    | next u => exact ih (by rwa [first] at h)
    | fault r => simp [first] at h
    | refused r => simp [first] at h

end

/-- From S0 write to the end of S15 write. -/
theorem run_duringCycle {base : Word16} {cond hold : Bool} {s t : State} (first : step s = .next t)
    (h : DuringCycle base cond hold 1 1 t) {n : Nat} (h1 : 1 ≤ n) (h31 : n ≤ 31) :
    ∃ u, Sys2Proof.core.run n s = .next u ∧ DuringCycle base cond hold n n u := by
  induction n, h1 using Nat.le_induction with
  | base => exact ⟨t, (run_one (M := Sys2Proof.core) s).trans first, h⟩
  | succ n h1 ih =>
    obtain ⟨u, hrun, during⟩ := ih (by omega)
    obtain ⟨v, hstep, next⟩ := during.step h1 h31
    exact ⟨v, (run_succ_of_next hrun).trans hstep, next⟩

/-- Settles O18: S0 write publishes, the 30 phases up to S15 write signal, and S15 read zeroes EXT where the run goes
on. -/
theorem extDuringADigitCycle : Obligations.ExtDuringADigitCycle := by
  intro s u running normal at0 unlatched zeroed alone noStops run base withCond withHold n h1 h32
  obtain ⟨t, first, during⟩ := duringCycle_of_s0Write running normal at0 unlatched alone noStops run
  rw [zeroed] at during
  obtain inner | rfl : n ≤ 31 ∨ n = 32 := by omega
  · obtain ⟨v, hrun, at_n⟩ := run_duringCycle first during h1 inner
    exact ⟨v, hrun, by simp [at_n.ext, inner, signalled, base, withCond, withHold]⟩
  · obtain ⟨v, hrun, at_31⟩ := run_duringCycle first during (n := 31) (by decide) le_rfl
    obtain ⟨w, hstep, ext⟩ := at_31.last_step
    exact ⟨w, (run_succ_of_next hrun).trans hstep, by simp [ext, signalled, base, withCond, withHold]⟩

end Sys2Proof.Machine
end

section
/-!
SUPPORT. RESETCNT in a step (48_coordinator.md R342, 70_reset_and_hazards.md R401): normal mode keeps it, boot mode
counts it down at S15 read, and nothing raises it.
-/
namespace Sys2Proof.Machine

open Sys2Proof

section
variable {s t : State}

theorem s0Write_resetCnt (h : s0Write s = .next t) : t.resetCnt = s.resetCnt := by
  obtain ⟨u, hu, rfl⟩ := (onNext_eq_next ..).mp h
  have kept := s0WriteExecute_keepsOutsideDecoder hu
  simpa using kept.resetCnt

theorem s15Read_resetCnt (h : s15Read s = .next t) : t.resetCnt = s.resetCnt := by
  obtain ⟨v, hv, rfl⟩ := (onNext_eq_next ..).mp h
  rw [fetchLatch_resetCnt]
  split at hv
  · obtain ⟨u, hu, kept⟩ := exec_keepsOutsideDecoder (decode s.ilOp) { s with sin := s.bus.io }
    rw [runDecoder, hu] at hv
    cases hv
    exact kept.resetCnt
  · cases hv
    rfl

/-- No phase of normal mode counts. -/
theorem normalPhase_resetCnt (h : normalPhase s = .next t) : t.resetCnt = s.resetCnt := by
  unfold normalPhase at h
  split at h
  next => exact s0Write_resetCnt h
  next => cases h; exact s1Write_resetCnt s
  next => cases h; exact s2Write_resetCnt s
  next => cases h; exact s2Read_resetCnt s
  next => cases h; rfl
  next => exact s15Read_resetCnt h
  next => cases h; rfl

/-- Boot mode counts down, at S15 read only. -/
theorem bootPhase_resetCnt (s : State) :
    (bootPhase s).resetCnt = if s.AtS15Read then s.resetCnt - 1 else s.resetCnt := by
  unfold bootPhase
  split
  next hw _ => simp [State.AtS15Read, hw]
  next hw _ => simp [State.AtS15Read, hw, blankOutputs]
  next hr hs =>
    have at15 : s.AtS15Read := ⟨BitVec.eq_of_toNat_eq hs, hr⟩
    simp [if_pos at15, apply_ite State.resetCnt]
  next not15 =>
    have elsewhere : ¬ s.AtS15Read := fun ⟨h15, hr⟩ => not15 hr (by simp [h15])
    rw [if_neg elsewhere]

theorem coreProcess_resetCnt_le (h : coreProcess s = .next t) : t.resetCnt ≤ s.resetCnt := by
  obtain normal | boot := Nat.eq_zero_or_pos s.resetCnt
  · rw [coreProcess_normal s normal] at h
    exact ((normalPhase_resetCnt h).trans (publishIdle_resetCnt s)).le
  · rw [coreProcess_boot s boot] at h
    cases h
    rw [bootPhase_resetCnt, publishIdle_resetCnt]
    split
    · exact Nat.sub_le ..
    · exact le_rfl

/-- What surrounds the core in a step leaves RESETCNT alone. -/
theorem step_resetCnt_le (running : s.ended = false) (h : step s = .next t) : t.resetCnt ≤ s.resetCnt := by
  obtain ⟨u, hu, rfl⟩ := (onNext_eq_next ..).mp ((runPhase_running s running).symm.trans h)
  simpa using coreProcess_resetCnt_le hu

end

/-- Settles O22: reset is defined with R47's values, and `step_resetCnt_le` says that no step raises RESETCNT. -/
theorem resetValues : Obligations.ResetValues := by
  refine ⟨fun c p env => ?_, fun s running => ?_⟩
  · simp [State.resetWith]
  · obtain ⟨u, hstep, -⟩ := step_eq_advance s running
    exact ⟨advance u, hstep, step_resetCnt_le running hstep⟩

end Sys2Proof.Machine
end

section
/-!
SUPPORT. The formats of 30_encoding.md read back: the class and the fields of a word by its number, the decoder on the
word of each format, and the encoder on what the slot tables hold (R101 to R107, R111, R112).
-/
namespace Sys2Proof.Machine

open Sys2Proof

/-! The fields of a word, by its number -/

section
variable (n : Nat)

theorem bit_ofNat {i : Nat} (h : i < 13) : (BitVec.ofNat 13 n).getLsbD i = decide (n / 2 ^ i % 2 = 1) := by
  rw [BitVec.getLsbD_ofNat, Nat.testBit_eq_decide_div_mod_eq, decide_eq_true h, Bool.true_and]

/-- A field of a word is its number, shifted down to the field's place. -/
theorem field_ofNat {lo len : Nat} (h : lo + len ≤ 13) :
    (BitVec.ofNat 13 n).extractLsb' lo len = BitVec.ofNat len (n / 2 ^ lo) := by
  apply BitVec.eq_of_getLsbD_eq
  intro i hi
  have inside : lo + i < 13 := by omega
  rw [BitVec.getLsbD_extractLsb', BitVec.getLsbD_ofNat, BitVec.getLsbD_ofNat, Nat.testBit_div_two_pow]
  simp [hi, inside, Nat.add_comm]

theorem opN_ofNat : opN (BitVec.ofNat 13 n) = BitVec.ofNat 4 n :=
  (field_ofNat n (by decide)).trans (by rw [pow_zero, Nat.div_one])

theorem opB_ofNat : opB (BitVec.ofNat 13 n) = BitVec.ofNat 4 (n / 16) := field_ofNat n (by decide)

theorem opClass_ofNat : opClass (BitVec.ofNat 13 n) = BitVec.ofNat 4 (n / 256) := field_ofNat n (by decide)

theorem opJ_ofNat : opJ (BitVec.ofNat 13 n) = BitVec.ofNat 5 (n / 8) := field_ofNat n (by decide)

theorem opD_ofNat : opD (BitVec.ofNat 13 n) = BitVec.ofNat 3 n :=
  (field_ofNat n (by decide)).trans (by rw [pow_zero, Nat.div_one])

theorem opKeyMask_ofNat : opKeyMask (BitVec.ofNat 13 n) = BitVec.ofNat 7 (n / 16 % 16 * 8 + n % 8) := by
  apply BitVec.eq_of_toNat_eq
  simp only [opKeyMask, toNat_append_eq_add, field_ofNat n (lo := 4) (len := 4) (by decide),
    field_ofNat n (lo := 0) (len := 3) (by decide), BitVec.toNat_ofNat]
  omega

/-- The class that the five bits op[12:8] select (R101). -/
def topClass (top : Nat) : OpClass :=
  if 16 ≤ top then .branch
  else if top = 0 then .flag
  else if top = 8 then .keyboard
  else if top = 10 then .wait
  else .arith

theorem wordClass_ofNat : wordClass (BitVec.ofNat 13 n) = topClass (n / 256 % 32) := by
  have selects (c : Nat) (hc : c < 16) : BitVec.ofNat 4 (n / 256) = BitVec.ofNat 4 c ↔ n / 256 % 16 = c := by
    rw [← BitVec.toNat_inj, BitVec.toNat_ofNat, BitVec.toNat_ofNat, Nat.mod_eq_of_lt (a := c) hc]
  have branch : (BitVec.ofNat 13 n).getLsbD 12 = true ↔ 16 ≤ n / 256 % 32 := by
    rw [bit_ofNat n (by decide), decide_eq_true_iff]
    omega
  rw [wordClass_eq, opClass_ofNat, topClass]
  by_cases top : 16 ≤ n / 256 % 32
  · rw [if_pos (branch.mpr top), if_pos top]
  · have small : n / 256 % 32 = n / 256 % 16 := by omega
    rw [if_neg (mt branch.mp top), if_neg top, small]
    simp only [← selects _ (by decide : 0 < 16), ← selects _ (by decide : 8 < 16), ← selects _ (by decide : 10 < 16)]
    rfl

end

theorem ofNat_eq_of_mod {w k : Nat} {v : BitVec w} (h : k % 2 ^ w = v.toNat) : BitVec.ofNat w k = v :=
  BitVec.eq_of_toNat_eq ((BitVec.toNat_ofNat k w).trans h)

/-! The decoder by class, for a word whose fields are known (R103 to R107) -/

section
variable {w : OpWord}

theorem decode_of_branch (class_eq : wordClass w = .branch) : decode w = .br (w.extractLsb' 0 12) := by
  rw [decode_eq, class_eq]

theorem decode_of_flag {b n : BitVec 4} (class_eq : wordClass w = .flag) (slot : opN w = n) (operand : opB w = b) :
    decode w = flagSlots[n.toFin] b := by
  subst slot operand
  rw [decode_eq, class_eq]

theorem decode_of_keyboard {mask : KeyRow} (class_eq : wordClass w = .keyboard) (operand : opKeyMask w = mask) :
    decode w = if w.getLsbD 3 then .kscan mask else .ktest mask := by
  subst operand
  rw [decode_eq, class_eq]

theorem decode_of_waitFields {b n : BitVec 4} (class_eq : wordClass w = .wait) (slot : opN w = n)
    (operand : opB w = b) : decode w = waitSlots[n.toFin] b := by
  subst slot operand
  exact decode_of_wait class_eq

theorem decode_of_arith {m : BitVec 4} {j : BitVec 5} {d : BitVec 3} (class_eq : wordClass w = .arith)
    (index : opClass w = m) (entry : opJ w = j) (code : opD w = d) :
    decode w = arInstr j.toFin m destTable[d.toFin] := by
  subst index entry code
  rw [decode_eq, class_eq]

end

/-! Decoding the word of each format -/

theorem decode_encodeFL (b n : BitVec 4) : decode (encodeFL b n) = flagSlots[n.toFin] b := by
  have hb := b.isLt
  have hn := n.isLt
  rw [encodeFL_eq_ofNat]
  refine decode_of_flag ?_ ?_ ?_
  · rw [wordClass_ofNat, show (b.toNat * 16 + n.toNat) / 256 % 32 = 0 by omega]
    rfl
  · rw [opN_ofNat]
    exact ofNat_eq_of_mod (by omega)
  · rw [opB_ofNat]
    exact ofNat_eq_of_mod (by omega)

theorem decode_encodeWT (b n : BitVec 4) : decode (encodeWT b n) = waitSlots[n.toFin] b := by
  have hb := b.isLt
  have hn := n.isLt
  rw [encodeWT_eq_ofNat]
  refine decode_of_waitFields ?_ ?_ ?_
  · rw [wordClass_ofNat, show (0x0A00 + n.toNat + b.toNat * 16) / 256 % 32 = 10 by omega]
    rfl
  · rw [opN_ofNat]
    exact ofNat_eq_of_mod (by omega)
  · rw [opB_ofNat]
    exact ofNat_eq_of_mod (by omega)

theorem decode_encodeKY (mask : KeyRow) (f : BitVec 1) :
    decode (encodeKY mask f) = if f = 1 then .kscan mask else .ktest mask := by
  have hm := mask.isLt
  have hf := f.isLt
  have mode : (0x0800 + f.toNat * 8 + mask.toNat / 8 * 16 + mask.toNat % 8) / 2 ^ 3 % 2 = 1 ↔ f = 1 := by
    rw [← BitVec.toNat_inj, show (1 : BitVec 1).toNat = 1 from rfl]
    omega
  rw [encodeKY_eq_ofNat, decode_of_keyboard (mask := mask), bit_ofNat _ (by decide)]
  · simp only [decide_eq_true_iff, mode]
  · rw [wordClass_ofNat,
      show (0x0800 + f.toNat * 8 + mask.toNat / 8 * 16 + mask.toNat % 8) / 256 % 32 = 8 by omega]
    rfl
  · rw [opKeyMask_ofNat]
    exact ofNat_eq_of_mod (by omega)

theorem encodeAR_eq_ofNat (m : BitVec 4) (j : BitVec 5) (dst : Dest) :
    encodeAR m j dst = BitVec.ofNat 13 (m.toNat * 256 + j.toNat * 8 + dst.code.toNat) := by
  apply BitVec.eq_of_toNat_eq
  simp only [encodeAR, toNat_append_eq_add, BitVec.toNat_ofNat]
  omega

/-- DEST_TABLE holds each destination at its code (R108). -/
theorem destTable_code (dst : Dest) : destTable[dst.code.toFin] = dst := by
  cases dst <;> rfl

/-- The mask indices of an arithmetic word are those that select no other class (R101, R107). -/
theorem topClass_of_arMaskOk {m : BitVec 4} (h : arMaskOk m = true) : topClass m.toNat = .arith := by
  revert m
  decide

theorem decode_encodeAR {m : BitVec 4} (h : arMaskOk m = true) (j : BitVec 5) (dst : Dest) :
    decode (encodeAR m j dst) = arInstr j.toFin m dst := by
  have hm := m.isLt
  have hj := j.isLt
  have hd := dst.code.isLt
  rw [encodeAR_eq_ofNat, decode_of_arith (m := m) (j := j) (d := dst.code), destTable_code]
  · rw [wordClass_ofNat, show (m.toNat * 256 + j.toNat * 8 + dst.code.toNat) / 256 % 32 = m.toNat by omega]
    exact topClass_of_arMaskOk h
  · rw [opClass_ofNat]
    exact ofNat_eq_of_mod (by omega)
  · rw [opJ_ofNat]
    exact ofNat_eq_of_mod (by omega)
  · rw [opD_ofNat]
    exact ofNat_eq_of_mod (by omega)

theorem decode_encode_br (x : BitVec 12) : decode (encode (.br x)) = .br x := by
  have hx := x.isLt
  rw [encode_br, decode_of_branch, field_ofNat _ (by decide)]
  · exact congrArg _ (ofNat_eq_of_mod (by omega))
  · rw [wordClass_ofNat, show (0x1000 + x.toNat) / 256 % 32 = 16 + x.toNat / 256 by omega]
    exact if_pos (by omega)

/-- A slot that op[4] splits holds the instruction of the variant, with the other bits of b as its operand (R112). -/
theorem pairSlot_append (i0 i1 : BitVec 3 → Instr) (x : BitVec 3) (v : BitVec 1) :
    pairSlot i0 i1 (x ++ v) = if v = 1 then i1 x else i0 x := by
  have variant : (x ++ v).getLsbD 0 = true ↔ v = 1 := by
    revert x v
    decide
  have operand : (x ++ v).extractLsb' 1 3 = x := by
    revert x v
    decide
  unfold pairSlot
  simp only [variant, operand]

theorem encodeWTPair_eq_encodeWT (x : BitVec 3) (v : BitVec 1) (n : BitVec 4) :
    encodeWTPair x v n = encodeWT (x ++ v) n := by
  rw [encodeWTPair_eq_ofNat, encodeWT_eq_ofNat, toNat_append_eq_add]
  congr 1
  omega

theorem decode_encodeWTPair (x : BitVec 3) (v : BitVec 1) (n : BitVec 4) :
    decode (encodeWTPair x v n) = waitSlots[n.toFin] (x ++ v) := by
  rw [encodeWTPair_eq_encodeWT, decode_encodeWT]

/-- Settles O1, format by format: the encoder names the slot that holds the instruction. -/
theorem decodeOfEncode : Obligations.DecodeOfEncode := by
  intro i wf
  cases i with
  | br x => exact decode_encode_br x
  | tfa b | sfa b | zfa b | ifa b | xfab b | skr b | cfab b | r5fa b | tfb b | sfb b | zfb b | ifb b | frsv b | zkr b
  | cfba b | r5fb b =>
    exact decode_encodeFL b _
  | kscan mask | ktest mask => exact decode_encodeKY mask _
  | waitd b | clridle b | clrfa b | waitbusy b | inckr b | tkr b | ldr5 b | setidle b | clrfb b | tbusy b | extkr b
  | xkrsr b | wrsv14 b | wrsv15 b =>
    exact decode_encodeWT b _
  | far5 x | fbr5 x => exact (decode_encodeWTPair x _ 6).trans (pairSlot_append .far5 .fbr5 x _)
  | krr5 x | r5kr x => exact (decode_encodeWTPair x _ 8).trans (pairSlot_append .krr5 .r5kr x _)
  | addAK m dst | subAK m dst | add0B m dst | sub0B m dst | addCK m dst | subCK m dst | add0D m dst | sub0D m dst
  | shlA m dst | shrA m dst | shlB m dst | shrB m dst | shlC m dst | shrC m dst | shlD m dst | shrD m dst | addAB m dst
  | subAB m dst | addCB m dst | subCB m dst | addCD m dst | subCD m dst | addAD m dst | subAD m dst | addAIO m dst
  | subAIO m dst | add0K m dst | sub0K m dst | addCIO m dst | subCIO m dst | addR5 m dst | subR5 m dst =>
    exact decode_encodeAR wf _ dst

/-! Encoding what a word decodes to -/

theorem encode_flagSlots (n b : BitVec 4) : encode (flagSlots[n.toFin] b) = encodeFL b n := by
  obtain ⟨n⟩ := n
  fin_cases n <;> rfl

/-- The encoder on a slot that op[4] splits. -/
theorem encode_pairSlot {i0 i1 : BitVec 3 → Instr} {n : BitVec 4} (h0 : ∀ x, encode (i0 x) = encodeWTPair x 0 n)
    (h1 : ∀ x, encode (i1 x) = encodeWTPair x 1 n) (b : BitVec 4) : encode (pairSlot i0 i1 b) = encodeWT b n := by
  have split : ∃ (x : BitVec 3) (v : BitVec 1), x ++ v = b := ⟨b.extractLsb' 1 3, b.extractLsb' 0 1, by revert b; decide⟩
  obtain ⟨x, v, rfl⟩ := split
  rw [pairSlot_append, ← encodeWTPair_eq_encodeWT]
  obtain rfl | rfl : v = 1 ∨ v = 0 := by revert v; decide
  · exact h1 x
  · exact h0 x

theorem encode_waitSlots (n b : BitVec 4) : encode (waitSlots[n.toFin] b) = encodeWT b n := by
  have slots : n = 6 ∨ n = 8 ∨ n ∈ [0#4, 1#4, 2#4, 3#4, 4#4, 5#4, 7#4, 9#4, 10#4, 11#4, 12#4, 13#4, 14#4, 15#4] := by
    revert n
    decide
  obtain rfl | rfl | single := slots
  · exact encode_pairSlot (i0 := .far5) (i1 := .fbr5) (fun _ => rfl) (fun _ => rfl) b
  · exact encode_pairSlot (i0 := .krr5) (i1 := .r5kr) (fun _ => rfl) (fun _ => rfl) b
  · fin_cases single <;> rfl

theorem encode_arInstr (j : Fin 32) (m : BitVec 4) (dst : Dest) :
    encode (arInstr j m dst) = encodeAR m (BitVec.ofFin j) dst := by
  fin_cases j <;> rfl

theorem code_destTable (d : BitVec 3) : destTable[d.toFin].code = d := by
  revert d
  decide

/-! The fields of a word as numbers -/

section
variable (w : OpWord)

theorem ofNat_toNat_word : BitVec.ofNat 13 w.toNat = w := by simp

theorem wordClass_eq_topClass : wordClass w = topClass (w.toNat / 256) := by
  have hw := w.isLt
  have h := wordClass_ofNat w.toNat
  rwa [ofNat_toNat_word, Nat.mod_eq_of_lt (by omega)] at h

theorem toNat_field (lo len : Nat) : (w.extractLsb' lo len).toNat = w.toNat / 2 ^ lo % 2 ^ len := by
  rw [BitVec.extractLsb'_toNat, Nat.shiftRight_eq_div_pow]

end

theorem topClass_eq_branch_iff {t : Nat} : topClass t = .branch ↔ 16 ≤ t := by
  unfold topClass
  grind

theorem topClass_eq_flag_iff {t : Nat} : topClass t = .flag ↔ t = 0 := by
  unfold topClass
  grind

theorem topClass_eq_keyboard_iff {t : Nat} : topClass t = .keyboard ↔ t = 8 := by
  unfold topClass
  grind

theorem topClass_eq_wait_iff {t : Nat} : topClass t = .wait ↔ t = 10 := by
  unfold topClass
  grind

theorem topClass_eq_arith_iff {t : Nat} : topClass t = .arith ↔ t < 16 ∧ t ≠ 0 ∧ t ≠ 8 ∧ t ≠ 10 := by
  unfold topClass
  grind

/-! The word of an instruction, put together again from its fields -/

section
variable {w : OpWord}

theorem encode_decode_branch (h : 16 ≤ w.toNat / 256) : encode (.br (w.extractLsb' 0 12)) = w := by
  have hw := w.isLt
  rw [encode_br, toNat_field]
  exact ofNat_eq_of_mod (by omega)

theorem encodeFL_fields (h : w.toNat / 256 = 0) : encodeFL (opB w) (opN w) = w := by
  rw [encodeFL_eq_ofNat, opB, opN, toNat_field, toNat_field]
  exact ofNat_eq_of_mod (by omega)

theorem encodeWT_fields (h : w.toNat / 256 = 10) : encodeWT (opB w) (opN w) = w := by
  rw [encodeWT_eq_ofNat, opB, opN, toNat_field, toNat_field]
  exact ofNat_eq_of_mod (by omega)

theorem encodeAR_fields {dst : Dest} (h : w.toNat / 256 < 16) (code : dst.code = opD w) :
    encodeAR (opClass w) (opJ w) dst = w := by
  rw [encodeAR_eq_ofNat, code, opClass, opJ, opD, toNat_field, toNat_field, toNat_field]
  exact ofNat_eq_of_mod (by omega)

/-- The sub-mode bit of a keyboard word stands in its bit 3 (R105). -/
theorem encodeKY_fields {f : BitVec 1} (h : w.toNat / 256 = 8) (mode : w.getLsbD 3 = decide (f = 1)) :
    encodeKY (opKeyMask w) f = w := by
  have hf := f.isLt
  have bit : w.getLsbD 3 = decide (w.toNat / 2 ^ 3 % 2 = 1) := by
    rw [← bit_ofNat w.toNat (by decide), ofNat_toNat_word]
  rw [bit, decide_eq_decide, ← BitVec.toNat_inj, show (1 : BitVec 1).toNat = 1 from rfl] at mode
  rw [encodeKY_eq_ofNat, opKeyMask, toNat_append_eq_add, toNat_field, toNat_field]
  exact ofNat_eq_of_mod (by omega)

end

/-- Only an arithmetic instruction has a field that does not take every value (R107, R115). -/
theorem wf_of_not_arith {i : Instr} (h : instrClass i ≠ .arith) : i.WellFormed := by
  cases i with
  | _ => first | rfl | exact absurd rfl h

theorem wf_arInstr (j : Fin 32) (m : BitVec 4) (dst : Dest) : (arInstr j m dst).wf = arMaskOk m := by
  fin_cases j <;> rfl

theorem arMaskOk_iff (m : BitVec 4) : arMaskOk m = true ↔ m.toNat ≠ 0 ∧ m.toNat ≠ 8 ∧ m.toNat ≠ 10 := by
  revert m
  decide

/-- Settles O2, class by class: the slot's word is put together from the fields the decoder has read. -/
theorem encodeOfDecode : Obligations.EncodeOfDecode := by
  intro w
  have class_eq := classSelection w
  have top := wordClass_eq_topClass w
  cases h : wordClass w <;> rw [h] at class_eq top
  case branch =>
    refine ⟨?_, wf_of_not_arith (by simp [class_eq])⟩
    rw [decode_of_branch h]
    exact encode_decode_branch (topClass_eq_branch_iff.mp top.symm)
  case flag =>
    refine ⟨?_, wf_of_not_arith (by simp [class_eq])⟩
    rw [decode_of_flag h rfl rfl, encode_flagSlots]
    exact encodeFL_fields (topClass_eq_flag_iff.mp top.symm)
  case keyboard =>
    refine ⟨?_, wf_of_not_arith (by simp [class_eq])⟩
    rw [decode_of_keyboard h rfl]
    have keyboard := topClass_eq_keyboard_iff.mp top.symm
    split
    next scan => exact encodeKY_fields (f := 1) keyboard scan
    next test => exact encodeKY_fields (f := 0) keyboard (Bool.eq_false_iff.mpr test)
  case wait =>
    refine ⟨?_, wf_of_not_arith (by simp [class_eq])⟩
    rw [decode_of_wait h, encode_waitSlots]
    exact encodeWT_fields (topClass_eq_wait_iff.mp top.symm)
  case arith =>
    obtain ⟨small, not0, not8, not10⟩ := topClass_eq_arith_iff.mp top.symm
    have index : (opClass w).toNat = w.toNat / 256 := by
      rw [opClass, toNat_field]
      exact Nat.mod_eq_of_lt small
    rw [decode_of_arith h rfl rfl rfl]
    constructor
    · rw [encode_arInstr]
      exact encodeAR_fields small (code_destTable _)
    · exact (wf_arInstr ..).trans ((arMaskOk_iff _).mpr (by rw [index]; exact ⟨not0, not8, not10⟩))

/-- Settles O3: eight runs of the decoder. -/
theorem specWordsDecode : Obligations.SpecWordsDecode := by
  unfold Obligations.SpecWordsDecode
  decide

/-! How many words a class has (R102): each value of op[12:8] stands in 256 words -/

theorem length_filter_div (p : Nat → Bool) (a b : Nat) :
    ((List.range (a * b)).filter fun n => p (n / b)).length = b * ((List.range a).filter p).length := by
  induction a with
  | zero => simp
  | succ a ih =>
    have row : ∀ n ∈ List.range b, p ((a * b + n) / b) = p a := fun n hn => by
      have hb := List.mem_range.mp hn
      rw [Nat.add_comm, Nat.add_mul_div_right _ _ (by omega), Nat.div_eq_of_lt hb, Nat.zero_add]
    have constant : (List.range b).filter ((fun n => p (n / b)) ∘ (a * b + ·)) = (List.range b).filter fun _ => p a :=
      List.filter_congr row
    rw [Nat.succ_mul, List.range_add, List.filter_append, List.length_append, ih, List.range_succ, List.filter_append,
      List.length_append, Nat.mul_add, List.filter_map, List.length_map]
    congr 1
    rw [constant]
    cases h : p a <;> simp [h]

theorem classCount_eq (c : OpClass) :
    classCount c = 256 * ((List.range 32).filter fun top => decide (topClass top = c)).length := by
  rw [← length_filter_div (fun top => decide (topClass top = c)) 32 256]
  refine congrArg List.length (List.filter_congr fun n hn => ?_)
  have bound := List.mem_range.mp hn
  rw [classSelection, wordClass_ofNat, Nat.mod_eq_of_lt (by omega)]

/-- Settles O5: 16, 1, 1, 1 and 13 of the 32 values of op[12:8] select the five classes. -/
theorem classCounts : Obligations.ClassCounts := by
  unfold Obligations.ClassCounts
  simp only [classCount_eq]
  decide

/-- A word put where the decoder takes its word is taken whole. -/
theorem withFetchWord_toNat (s : State) (w : OpWord) : s.withFetchWord 16 w.toNat = placeWord w s := by
  have hw := w.isLt
  rw [State.withFetchWord, Nat.mod_eq_of_lt (by omega), ofNat_toNat_word]

/-- Settles O13: the phase at which the word is placed is the one its class runs in. -/
theorem placedWordIsRunNext : Obligations.PlacedWordIsRunNext := by
  intro s w
  dsimp only
  rw [withFetchWord_toNat, placeWord]
  cases late : isLate s.cfg.operandTable (decode w) with
  | true => exact ⟨rfl, rfl, rfl, nofun, fun _ => ⟨⟨rfl, rfl⟩, rfl⟩⟩
  | false => exact ⟨rfl, rfl, rfl, fun _ => ⟨rfl, rfl⟩, nofun⟩

end Sys2Proof.Machine
end

section
/-!
SUPPORT. The arithmetic instructions by destination (45_arithmetic.md R285 to R291): the word of each, the pass each
runs, and everything the pass and the steps around it do to the state that the decoder's entry leaves.
-/
namespace Sys2Proof.Machine

open Sys2Proof

theorem code_destTable_fin (c : Fin 8) : destTable[c].code.toNat = c.val := by
  revert c
  decide

theorem encode_arInstr_destTable (j : Fin 32) (mi : BitVec 4) (c : Fin 8) :
    encode (arInstr j mi destTable[c]) = BitVec.ofNat 13 (mi.toNat * 256 + j.val * 8 + c.val) := by
  rw [encode_arInstr, encodeAR_eq_ofNat, code_destTable_fin]
  rfl

section
variable (j : Fin 32) (mi : BitVec 4) (dst : Dest) {s : State}

/-- Under a mask with a window an arithmetic instruction runs one pass, with the kind and the operands of its entry. -/
theorem exec_arInstr_pass (hm : (s.mask mi).HasWindow) :
    exec (arInstr j mi dst) s =
      .next (arithOn (entryKind j s) (entryX j s) (entryY j (s.mask mi) s) (s.mask mi) dst (entered s)) :=
  (exec_arInstr j mi dst s).trans (congrArg _ (arithEntry_eq j mi dst (entered s) hm))

/-- Settles O8: the formats' weights, and the 32 entries of the reference table one by one. -/
theorem arithmeticWords : Obligations.ArithmeticWords := by
  refine ⟨encode_arInstr_destTable, fun mi dst s table hm => ?_⟩
  have run := fun j => exec_arInstr_pass j mi dst hm
  unfold entryKind entryX entryY at run
  rw [table] at run
  exact ⟨run 0, run 1, run 2, run 3, run 4, run 5, run 6, run 7, run 8, run 9, run 10, run 11, run 12, run 13, run 14,
    run 15, run 16, run 17, run 18, run 19, run 20, run 21, run 22, run 23, run 24, run 25, run 26, run 27, run 28,
    run 29, run 30, run 31⟩

end

/-- Settles O46: a register destination is the pass alone. -/
theorem arithmeticToARegister : Obligations.ArithmeticToARegister := by
  intro j mi dst q s hm hdst m k x y
  obtain ⟨D, r, c, hpass, hr, hc, hD⟩ :=
    alu_spec (entryKind j s) (entryX j s) (entryY j m s) (.reg q) m (entered s) hm
  refine ⟨D, r, ?_, hr, fun i => hD i⟩
  rw [exec_arInstr_pass j mi dst hm, arithOn_reg (h := targetOf_of_mem hdst), hpass, hc]
  rfl

/-- Settles O47: the pass starts from a cleared IOOUT. -/
theorem arithmeticToIo : Obligations.ArithmeticToIo := by
  intro j mi s hm m k x y
  obtain ⟨D, r, c, hpass, hr, hc, hD⟩ :=
    alu_spec (entryKind j s) (entryX j s) (entryY j m s) .ioOut m { entered s with ioOut := zeroDigits } hm
  refine ⟨D, r, ?_, hr, fun i => ?_⟩
  · rw [exec_arInstr_pass j mi .io hm, arithOn_io, hpass, hc]
    rfl
  · rw [hD]
    exact congrArg (windowResult k m x y · i) (congrArg BitVec.toNat (digitAt_zeroDigits i))

/-- The state s with R5 and COND as a pass has left them. -/
def State.withLatches (s : State) (r : Digit) (c : Bool) : State := { s with r5 := r, cond := c }

theorem reg_withLatches (s : State) (r : Digit) (c : Bool) (q : Reg) : (s.withLatches r c).reg q = s.reg q := by
  cases q <;> rfl

theorem setReg_withLatches (s : State) (r : Digit) (c : Bool) (q : Reg) (v : Digits) :
    (s.withLatches r c).setReg q v = (s.setReg q v).withLatches r c := by
  cases q <;> rfl

/-- An exchange does not depend on R5 and COND, and keeps them. -/
theorem exchange_withLatches (p q : Reg) (m : MaskDesc) (s : State) (r : Digit) (c : Bool) :
    exchange p q m (s.withLatches r c) = (exchange p q m s).withLatches r c := by
  simp only [exchange_eq, reg_withLatches, setReg_withLatches]

/-- Settles O48: the pass writes no digit, so the exchange finds the registers as they were. -/
theorem arithmeticThenExchange : Obligations.ArithmeticThenExchange := by
  intro j mi dst p q s hm hdst m k x y
  have pair : exchangedBy dst = some (p, q) := by fin_cases hdst <;> rfl
  obtain ⟨D, r, c, hpass, hr, hc, -⟩ :=
    alu_spec (entryKind j s) (entryX j s) (entryY j m s) .none m (entered s) hm
  refine ⟨mergeWindow m (s.reg p) (s.reg q), mergeWindow m (s.reg q) (s.reg p), r, ?_, hr, fun i =>
    ⟨digitAt_mergeWindow .., digitAt_mergeWindow ..⟩⟩
  rw [exec_arInstr_pass j mi dst hm, arithOn_exchange (h := pair), hpass, hc]
  exact congrArg _ (exchange_withLatches p q m (entered s) r _)

/-! A mask without a window (40_alu_exchange.md R156, R160) -/

theorem mergeWindow_malformed {m : MaskDesc} (hm : ¬ m.HasWindow) (P Q : Digits) : mergeWindow m P Q = P := by
  refine digits_ext _ _ fun i _ => ?_
  rw [digitAt_mergeWindow, if_neg fun inside => hm (inside.1.trans inside.2)]

theorem exchange_malformed {m : MaskDesc} (hm : ¬ m.HasWindow) (p q : Reg) (s : State) : exchange p q m s = s := by
  rw [exchange_eq, mergeWindow_malformed hm, mergeWindow_malformed hm, setReg_reg_self, setReg_reg_self]

theorem arithOn_malformed {m : MaskDesc} (hm : ¬ m.HasWindow) (k : Kind) (X Y : Digits) (dst : Dest) (s : State) :
    arithOn k X Y m dst s = if dst = .io then { s with ioOut := zeroDigits, ioValid := true } else s := by
  cases dst with
  | io => rw [arithOn_io, alu_malformed _ _ _ _ _ _ hm, if_pos rfl]
  | a | b | c | d => rw [arithOn_reg (h := rfl), alu_malformed _ _ _ _ _ _ hm, if_neg nofun]
  | xab | xcd | xae =>
    rw [arithOn_exchange (h := rfl), alu_malformed _ _ _ _ _ _ hm, exchange_malformed hm, if_neg nofun]

/-- Settles O49: neither the pass nor the exchange does anything, and the steps around them remain. -/
theorem malformedMaskChangesNothing : Obligations.MalformedMaskChangesNothing := by
  intro j mi dst s hm
  rw [exec_arInstr, arithEntry, arith_eq]
  exact congrArg _ (arithOn_malformed hm _ _ _ dst (entered s))

/-! R5 and COND, whatever the destination (40_alu_exchange.md R151, R155) -/

section
variable (k : Kind) (X Y : Digits) {m : MaskDesc} (hm : m.HasWindow)
include hm

theorem alu_r5_cond (t : Target) (s : State) :
    (alu k X Y t m s).r5.toNat = windowDigit k m.start (nats (digitAt X)) (nats (s.secondOperand m Y)) m.start ∧
      (alu k X Y t m s).cond = condAfter k m (nats (digitAt X)) (nats (s.secondOperand m Y)) s.cond := by
  obtain ⟨D, r, c, hpass, hr, hc, -⟩ := alu_spec k X Y t m s hm
  rw [hpass]
  exact ⟨hr, hc⟩

/-- Of the steps around a pass none writes R5 or COND. -/
theorem arithOn_r5_cond (dst : Dest) (s : State) :
    (arithOn k X Y m dst s).r5.toNat = windowDigit k m.start (nats (digitAt X)) (nats (s.secondOperand m Y)) m.start ∧
      (arithOn k X Y m dst s).cond = condAfter k m (nats (digitAt X)) (nats (s.secondOperand m Y)) s.cond := by
  cases dst with
  | io =>
    rw [arithOn_io]
    exact alu_r5_cond k X Y hm .ioOut { s with ioOut := zeroDigits }
  | a | b | c | d =>
    rw [arithOn_reg (h := rfl)]
    exact alu_r5_cond k X Y hm _ s
  | xab | xcd | xae =>
    rw [arithOn_exchange (h := rfl), exchange_r5, exchange_cond]
    exact alu_r5_cond k X Y hm _ s

end

/-- Settles O55: over a window both come from the pass; without one neither changes. -/
theorem r5AndCondRegardlessOfDestination : Obligations.R5AndCondRegardlessOfDestination := by
  intro j mi d1 d2 s
  by_cases hm : (s.mask mi).HasWindow
  · have latched := arithOn_r5_cond (entryKind j s) (entryX j s) (entryY j (s.mask mi) s) hm (s := entered s)
    obtain ⟨r1, c1⟩ := latched d1
    obtain ⟨r2, c2⟩ := latched d2
    exact ⟨_, _, exec_arInstr_pass j mi d1 hm, exec_arInstr_pass j mi d2 hm,
      BitVec.eq_of_toNat_eq (r1.trans r2.symm), c1.trans c2.symm⟩
  · have unchanged (dst : Dest) : ∃ t, exec (arInstr j mi dst) s = .next t ∧ t.r5 = s.r5 ∧ t.cond = (entered s).cond :=
      ⟨_, malformedMaskChangesNothing j mi dst s hm, by split <;> rfl, by split <;> rfl⟩
    obtain ⟨t, ht, tr, tc⟩ := unchanged d1
    obtain ⟨u, hu, ur, uc⟩ := unchanged d2
    exact ⟨t, u, ht, hu, tr.trans ur.symm, tc.trans uc.symm⟩

end Sys2Proof.Machine
end

section
/-!
SUPPORT. Windows as numbers where digit 0 is in them (40_alu_exchange.md R164), and the windows of the shift entries and
of R5-to-adder, digit by digit (R151 to R154, R167; 45_arithmetic.md R292).
-/
namespace Sys2Proof.Machine

open Sys2Proof

/-! A result and a carry, or a borrow, modulo T -/

theorem mod_of_carry {d sum T : Nat} {carry : Bool} (h : d + carry.toNat * T = sum) (hd : d < T) :
    d = sum % T ∧ carry = !decide (sum < T) := by
  rw [← h]
  cases carry with
  | false => simp [Nat.mod_eq_of_lt hd, hd]
  | true => simp [Nat.mod_eq_of_lt hd]

theorem mod_of_borrow {d x y T : Nat} {borrow : Bool} (h : d + y = x + borrow.toNat * T) (hd : d < T) :
    d = (x + T - y) % T ∧ borrow = !decide (y ≤ x) := by
  cases borrow with
  | false =>
    rw [Bool.toNat_false, Nat.zero_mul] at h
    rw [show x + T - y = d + T by omega, Nat.add_mod_right, Nat.mod_eq_of_lt hd, decide_eq_true (by omega)]
    exact ⟨rfl, rfl⟩
  | true =>
    rw [Bool.toNat_true, Nat.one_mul] at h
    rw [← h, Nat.add_sub_cancel, Nat.mod_eq_of_lt hd, decide_eq_false (by omega)]
    exact ⟨rfl, rfl⟩

/-! Digit 0 and the n decimal digits above it -/

/-- The number with the binary digit x 0 and the n decimal digits of x above it. -/
def mixedDigits (x : Nat → Nat) (n : Nat) : Nat := x 0 + 16 * digitsValue x 1 n

theorem mixedValue_eq_mixedDigits (R : Digits) (n : Nat) : mixedValue R n = mixedDigits (nats (digitAt R)) n := by
  rw [mixedValue, decimalValue_eq_digitsValue]
  rfl

theorem mixedDigits_succ (x : Nat → Nat) (n : Nat) :
    mixedDigits x (n + 1) = mixedDigits x n + x (0 + (n + 1)) * (16 * 10 ^ n) := by
  rw [mixedDigits, mixedDigits, digitsValue_succ, Nat.zero_add, Nat.add_comm 1 n]
  ring

section
variable {x y : Nat → Nat} {n : Nat}

theorem mixedDigits_congr (h : ∀ i ≤ n, x i = y i) : mixedDigits x n = mixedDigits y n := by
  rw [mixedDigits, mixedDigits, h 0 n.zero_le, digitsValue_congr fun i hi => h (1 + i) (by omega)]

theorem mixedDigits_lt (hx : BelowRadix 0 (n + 1) x) : mixedDigits x n < 16 * 10 ^ n := by
  have low : x 0 < 16 := hx 0 n.succ_pos
  have high : digitsValue x 1 n < 10 ^ n := digitsValue_lt le_rfl fun i hi => by
    have := hx (1 + i) (by omega)
    rwa [Nat.zero_add] at this
  unfold mixedDigits
  omega

/-- The digits of an ADD and its carry are the sum of the operands. -/
theorem mixedDigits_add_carry (hx : BelowRadix 0 (n + 1) x) (hy : BelowRadix 0 (n + 1) y) :
    mixedDigits (windowDigit .add 0 x y) n + (windowCarry .add 0 x y (n + 1)).toNat * (16 * 10 ^ n) =
      mixedDigits x n + mixedDigits y n := by
  obtain ⟨-, digit⟩ := windowDigit_add hx hy
  induction n with
  | zero =>
    rw [digitRadix_zero] at digit
    simpa [mixedDigits, digitsValue, windowCarry, Nat.mul_comm] using digit
  | succ n ih =>
    rw [digitRadix_of_pos (by omega)] at digit
    have below := ih hx.of_succ hy.of_succ (windowDigit_add hx.of_succ hy.of_succ).2
    simp only [mixedDigits_succ, pow_succ]
    linear_combination below + 16 * 10 ^ n * digit

/-- The digits of a SUB and the second operand are the first operand and the borrow. -/
theorem mixedDigits_sub_borrow (hx : BelowRadix 0 (n + 1) x) (hy : BelowRadix 0 (n + 1) y) :
    mixedDigits (windowDigit .sub 0 x y) n + mixedDigits y n =
      mixedDigits x n + (windowCarry .sub 0 x y (n + 1)).toNat * (16 * 10 ^ n) := by
  obtain ⟨-, digit⟩ := windowDigit_sub hx hy
  induction n with
  | zero =>
    rw [digitRadix_zero] at digit
    simpa [mixedDigits, digitsValue, windowCarry, Nat.mul_comm] using digit
  | succ n ih =>
    rw [digitRadix_of_pos (by omega)] at digit
    have below := ih hx.of_succ hy.of_succ (windowDigit_sub hx.of_succ hy.of_succ).2
    simp only [mixedDigits_succ, pow_succ]
    linear_combination below + 16 * 10 ^ n * digit

theorem mixedDigits_add (hx : BelowRadix 0 (n + 1) x) (hy : BelowRadix 0 (n + 1) y) :
    mixedDigits (windowDigit .add 0 x y) n = (mixedDigits x n + mixedDigits y n) % (16 * 10 ^ n) ∧
      windowCarry .add 0 x y (n + 1) = !decide (mixedDigits x n + mixedDigits y n < 16 * 10 ^ n) :=
  mod_of_carry (mixedDigits_add_carry hx hy) (mixedDigits_lt (hx.windowDigit (.inl rfl) hy))

theorem mixedDigits_sub (hx : BelowRadix 0 (n + 1) x) (hy : BelowRadix 0 (n + 1) y) :
    mixedDigits (windowDigit .sub 0 x y) n = (mixedDigits x n + 16 * 10 ^ n - mixedDigits y n) % (16 * 10 ^ n) ∧
      windowCarry .sub 0 x y (n + 1) = !decide (mixedDigits y n ≤ mixedDigits x n) :=
  mod_of_borrow (mixedDigits_sub_borrow hx hy) (mixedDigits_lt (hx.windowDigit (.inr rfl) hy))

end

/-- Settles O51: the window's digits as a mixed-radix number, and the carry out of the window. -/
theorem mixedRadixAddAndSubtract : Obligations.MixedRadixAddAndSubtract := by
  intro j mi dst q s m top nx ny hstart hc silent hx hy hdst
  have hm : m.HasWindow := Fin.le_def.mpr (hstart ▸ Nat.zero_le _)
  have hX := hx.belowRadix
  have hY := hy.belowRadix
  rw [hstart, Nat.sub_zero] at hX hY
  obtain ⟨sum, carry⟩ := mixedDigits_add hX hY
  obtain ⟨difference, borrow⟩ := mixedDigits_sub hX hY
  simp only [← mixedValue_eq_mixedDigits] at sum carry difference borrow
  obtain ⟨t, ht, cond, digits⟩ := exec_arInstr_window j mi dst s hm
  rw [natY_of_silent j m s hc silent] at cond digits
  rw [targetOf_of_mem hdst] at digits
  have written {k : Kind} (hk : k = .add ∨ k = .sub) (hkind : entryKind j s = k) :
      mixedValue (t.reg q) m.last =
        mixedDigits (windowDigit k 0 (natX j s) (nats (digitAt (entryY j m s)))) m.last := by
    rw [mixedValue_eq_mixedDigits]
    refine mixedDigits_congr fun i hi => ?_
    have inside : m.InWindow i := ⟨hstart ▸ i.zero_le, hi⟩
    rw [← hstart, ← windowResult_of_addSub hk _ _ 0 inside, ← hkind]
    exact digits nofun i inside
  refine ⟨t, ht, fun hk => ⟨(written (.inl rfl) hk).trans sum, ?_⟩, fun hk =>
    ⟨(written (.inr rfl) hk).trans difference, ?_⟩⟩
  all_goals
    rw [cond, hk]
    unfold condAfter windowCarryOut
    rw [hstart, Nat.sub_zero]
  · exact congrArg (_ && ·) ((congrArg (!·) carry).trans (Bool.not_not _))
  · exact congrArg (_ && ·) ((congrArg (!·) borrow).trans (Bool.not_not _))

/-! The shift entries -/

/-- An arithmetic instruction with a register destination: R5, COND and the digits of the register. -/
theorem exec_arInstr_toReg (j : Fin 32) (mi : BitVec 4) {dst : Dest} {q : Reg} {s : State} {m : MaskDesc}
    (mask : s.mask mi = m) (hm : m.HasWindow)
    (hdst : (dst, q) ∈ [(Dest.a, Reg.a), (Dest.b, Reg.b), (Dest.c, Reg.c), (Dest.d, Reg.d)]) :
    ∃ t, exec (arInstr j mi dst) s = .next t ∧
      t.r5.toNat = windowDigit (entryKind j s) m.start (natX j s) (natY j m s) m.start ∧
      t.cond = condAfter (entryKind j s) m (natX j s) (natY j m s) (s.cond || s.jump) ∧
      ∀ i : Fin 16, (digitAt (t.reg q) i).toNat =
        windowResult (entryKind j s) m (natX j s) (natY j m s) (digitAt (s.reg q) i).toNat i := by
  subst mask
  obtain ⟨D, r, hexec, hr, hD⟩ := arithmeticToARegister j mi dst q s hm hdst
  refine ⟨_, hexec, hr, rfl, fun i => (congrArg (fun R => (digitAt R i).toNat) ?_).trans (hD i)⟩
  exact (reg_withLatches ((entered s).setReg q D) r _ q).trans (setReg_reg ..)

theorem natX_of_zero {j : Fin 32} {s : State} (h : entryX j s = zeroDigits) : natX j s = fun _ => 0 := by
  unfold natX
  rw [h]
  exact nats_zeroDigits

theorem natY_lt (j : Fin 32) (m : MaskDesc) (s : State) (i : Nat) : natY j m s i < 16 := (entryEffY j m s i).isLt

/-- Digits that are decimal where they have to be are below their radix along the window. -/
theorem belowRadix_of_le_nine {m : MaskDesc} {y : Nat → Nat} (binary : y 0 < 16)
    (h : ∀ i : Fin 16, 1 ≤ i.val → m.InWindow i → y i ≤ 9) :
    BelowRadix m.start (m.last.val + 1 - m.start.val) y := by
  intro n hn
  obtain h0 | hpos := Nat.eq_zero_or_pos (m.start.val + n)
  · rw [h0]
    exact binary
  · rw [digitRadix_of_pos hpos]
    exact Nat.lt_succ_of_le (h ⟨m.start.val + n, by omega⟩ hpos ⟨by simp, by simp; omega⟩)

/-- The first digit of the window has no carry in, and the shifts compute it alike. -/
theorem windowDigit_shr_start (start : Nat) (x y : Nat → Nat) :
    windowDigit .shr start x y start = windowDigit .shl start x y start := by
  simp only [windowDigit, Nat.sub_self, windowCarry]
  rfl

theorem condAfter_shift {k : Kind} (hk : k = .shl ∨ k = .shr) (m : MaskDesc) (x y : Nat → Nat) (c : Bool) :
    condAfter k m x y c = c := by
  obtain rfl | rfl := hk <;> rfl

/-- With no first operand and digits below the radix, the digit a shift latches in R5 is the operand's. -/
theorem windowDigit_shift_start {k : Kind} (hk : k = .shl ∨ k = .shr) {start : Nat} {y : Nat → Nat}
    (hy : BelowRadix start 1 y) : windowDigit k start (fun _ => 0) y start = y start := by
  have latched : windowDigit .shl start (fun _ => 0) y start = y start := windowDigit_shl (n := 0) hy
  obtain rfl | rfl := hk
  · exact latched
  · rw [windowDigit_shr_start, latched]

/-- Settles O53: with no first operand and decimal digits no digit of the window carries. -/
theorem shiftsMoveDigits : Obligations.ShiftsMoveDigits := by
  intro j mi dst q s m y hm hk hX hy hdst
  obtain ⟨t, hexec, hr, hcond, digits⟩ := exec_arInstr_toReg j mi (m := m) rfl hm hdst
  have radix : BelowRadix m.start (m.last.val + 1 - m.start.val) y := belowRadix_of_le_nine (natY_lt j m s 0) hy
  have hle : m.start.val ≤ m.last.val := hm
  rw [natX_of_zero hX] at hr hcond digits
  refine ⟨t, hexec, ?_, ?_, fun shl i => ?_, fun shr i => ?_⟩
  · rw [hr]
    exact windowDigit_shift_start hk fun i hi => radix i (by omega)
  · rw [hcond, condAfter_shift hk]
  · rw [digits, shl, windowResult]
    simp only [Fin.ext_iff]
    split_ifs with inside first
    · rfl
    · obtain ⟨n, hn, hi⟩ := exists_offset_of_inWindow inside
      obtain ⟨n, rfl⟩ := Nat.exists_eq_succ_of_ne_zero fun h0 : n = 0 => first (by omega)
      rw [show i.val - 1 = m.start.val + n by omega]
      exact windowDigit_shl fun k hk => radix k (by omega)
    · rfl
  · rw [digits, shr, windowResult]
    simp only [Fin.ext_iff]
    rfl

/-! A decimal digit of ADD and of SUB (40_alu_exchange.md R149), its operands decimal or not (R167) -/

section
variable {i : Nat} (hi : i ≠ 0) (x t : Nat)
include hi

theorem exactCarry_add_decimal : exactCarry .add i x t = decide (10 ≤ x + t) := by
  simp [exactCarry, hi]

theorem exactValue_add_decimal : exactValue .add i x t = (x + t + if 10 ≤ x + t then 6 else 0) % 16 := by
  simp [exactValue, exactCarry_add_decimal hi, hi]

theorem exactCarry_sub_decimal : exactCarry .sub i x t = decide (x < t ∨ t + 10 ≤ x) := by
  simp [exactCarry, hi]

theorem exactValue_sub_decimal :
    exactValue .sub i x t = (16 + x - t + if x < t ∨ t + 10 ≤ x then 10 else 0) % 16 := by
  simp [exactValue, exactCarry_sub_decimal hi, hi]

end

/-! R5-to-adder: the digit r at the window's start and nothing above it (45_arithmetic.md R292) -/

theorem digitAt_tempT (m : MaskDesc) (s : State) (i : Nat) :
    digitAt (tempT m s) i = if i = m.start.val then s.r5 else 0 := by
  unfold digitAt tempT
  split
  next hi => simp [Fin.ext_iff]
  next hi => rw [if_neg (by omega)]

/-- The digits of T. -/
def singleDigit (start r : Nat) (i : Nat) : Nat := if i = start then r else 0

theorem singleDigit_start (start r : Nat) : singleDigit start r (start + 0) = r := if_pos rfl

theorem singleDigit_above (start r n : Nat) : singleDigit start r (start + (n + 1)) = 0 := if_neg (by omega)

section
variable {start r : Nat}

/-- Adding nothing to T: the first digit carries once, where it is 10 or more. -/
theorem windowCarry_add_singleDigit (hs : 1 ≤ start) (n : Nat) :
    windowCarry .add start (fun _ => 0) (singleDigit start r) n = decide (n = 1 ∧ 10 ≤ r) := by
  induction n with
  | zero => rfl
  | succ n ih =>
    rw [windowCarry_succ, ih, exactCarry_add_decimal (by omega), decide_eq_decide]
    cases n with
    | zero =>
      rw [singleDigit_start]
      simp
    | succ n =>
      have small := (decide (n + 1 = 1 ∧ 10 ≤ r)).toNat_le
      rw [singleDigit_above]
      omega

theorem windowDigit_add_singleDigit (hs : 1 ≤ start) (hr : r < 16) (n : Nat) :
    windowDigit .add start (fun _ => 0) (singleDigit start r) (start + n) =
      if n = 0 then r % 10 else if n = 1 ∧ 10 ≤ r then 1 else 0 := by
  rw [windowDigit_offset, windowCarry_add_singleDigit hs, exactValue_add_decimal (by omega)]
  cases n with
  | zero =>
    simp only [singleDigit_start, Nat.zero_ne_one, false_and, decide_false, Bool.toNat_false]
    split_ifs <;> omega
  | succ n =>
    rw [singleDigit_above]
    by_cases carry : n = 0 ∧ 10 ≤ r
    · simp [carry]
    · have none : ¬ (n + 1 = 1 ∧ 10 ≤ r) := by omega
      simp only [none, decide_false, Bool.toNat_false]
      rfl

/-- Taking T from nothing: it borrows from every digit above, unless it is 0. -/
theorem windowCarry_sub_singleDigit (hs : 1 ≤ start) (n : Nat) :
    windowCarry .sub start (fun _ => 0) (singleDigit start r) n = decide (n ≠ 0 ∧ r ≠ 0) := by
  induction n with
  | zero => rfl
  | succ n ih =>
    rw [windowCarry_succ, ih, exactCarry_sub_decimal (by omega), decide_eq_decide]
    cases n with
    | zero =>
      simp only [singleDigit_start, ne_eq, not_true_eq_false, false_and, decide_false, Bool.toNat_false]
      omega
    | succ n =>
      rw [singleDigit_above]
      by_cases zero : r = 0 <;> simp [zero]

theorem windowDigit_sub_singleDigit (hs : 1 ≤ start) (hr : r < 16) (n : Nat) :
    windowDigit .sub start (fun _ => 0) (singleDigit start r) (start + n) =
      if r = 0 then 0 else if n = 0 then (26 - r) % 16 else 9 := by
  rw [windowDigit_offset, windowCarry_sub_singleDigit hs, exactValue_sub_decimal (by omega)]
  cases n with
  | zero =>
    simp only [singleDigit_start, ne_eq, not_true_eq_false, false_and, decide_false, Bool.toNat_false]
    split_ifs <;> omega
  | succ n =>
    rw [singleDigit_above]
    by_cases zero : r = 0 <;> simp [zero]

end

theorem entryX_of_r5 {j : Fin 32} {s : State} (h : s.cfg.operandTable[j].x = .r5) : entryX j s = zeroDigits := by
  unfold entryX
  rw [h]

theorem entryY_of_r5 {j : Fin 32} {s : State} (h : s.cfg.operandTable[j].x = .r5) (m : MaskDesc) :
    entryY j m s = tempT m s := by
  unfold entryY
  rw [h]

theorem natY_of_r5 {j : Fin 32} {s : State} {m : MaskDesc} (h : s.cfg.operandTable[j].x = .r5) (hc : m.cval = 0)
    (silent : s.SerialSilent) : natY j m s = singleDigit m.start s.r5.toNat := by
  rw [natY_of_silent j m s hc silent, entryY_of_r5 h]
  funext i
  rw [nats, digitAt_tempT, singleDigit, apply_ite BitVec.toNat]
  rfl

/-- Settles O54: the digits of T plus, or taken from, nothing. -/
theorem r5ToAdder : Obligations.R5ToAdder := by
  intro j mi dst q s m r hx hm hstart hc silent hdst
  obtain ⟨t, hexec, hr, hcond, digits⟩ := exec_arInstr_toReg j mi (m := m) rfl hm hdst
  rw [natX_of_zero (entryX_of_r5 hx), natY_of_r5 hx hc silent] at hr hcond digits
  have hle : m.start.val ≤ m.last.val := hm
  have r16 : r < 16 := s.r5.isLt
  refine ⟨t, hexec, fun add => ?_, fun sub => ?_⟩
  · rw [add] at hr hcond digits
    refine ⟨?_, ?_, fun i inside => ?_⟩
    · rw [hr]
      exact windowDigit_add_singleDigit hstart r16 0
    · have out : (m.last.val + 1 - m.start.val = 1 ∧ 10 ≤ r) ↔ (10 ≤ r ∧ m.start = m.last) := by
        rw [Fin.ext_iff]
        omega
      rw [hcond, condAfter, windowCarryOut, windowCarry_add_singleDigit hstart, decide_eq_decide.mpr out]
    · obtain ⟨n, hn, hi⟩ := exists_offset_of_inWindow inside
      rw [digits, windowResult_of_addSub (.inl rfl) _ _ _ inside, ← hi, windowDigit_add_singleDigit hstart r16]
      simp only [Fin.ext_iff]
      split_ifs <;> omega
  · rw [sub] at hr hcond digits
    refine ⟨?_, ?_, fun i inside => ?_⟩
    · rw [hr]
      exact windowDigit_sub_singleDigit hstart r16 0
    · have out : decide (m.last.val + 1 - m.start.val ≠ 0 ∧ r ≠ 0) = !decide (r = 0) := by
        rw [← decide_not, decide_eq_decide]
        omega
      rw [hcond, condAfter, windowCarryOut, windowCarry_sub_singleDigit hstart, out, Bool.not_not]
    · obtain ⟨n, hn, hi⟩ := exists_offset_of_inWindow inside
      rw [digits, windowResult_of_addSub (.inr rfl) _ _ _ inside, ← hi, windowDigit_sub_singleDigit hstart r16]
      simp only [Fin.ext_iff]
      split_ifs <;> omega

end Sys2Proof.Machine
end

section
/-!
SUPPORT. Rules over all instructions: what the pass and the steps around it keep, the one view of the arithmetic
instructions by operand entry, and what one run of the decoder can do to the digit registers, HOLD, COND, BUSY and the
IO latch (10_state.md sections 1 and 3, 41_branch.md R180, 48_coordinator.md R358).
-/
namespace Sys2Proof.Machine

open Sys2Proof

/-! The arithmetic instructions -/

/-- Every arithmetic instruction is the one of some operand entry. -/
theorem exists_arInstr {i : Instr} (h : instrClass i = .arith) : ∃ j mi dst, i = arInstr j mi dst := by
  cases i with
  | addAK m dst => exact ⟨0, m, dst, rfl⟩
  | subAK m dst => exact ⟨1, m, dst, rfl⟩
  | add0B m dst => exact ⟨2, m, dst, rfl⟩
  | sub0B m dst => exact ⟨3, m, dst, rfl⟩
  | addCK m dst => exact ⟨4, m, dst, rfl⟩
  | subCK m dst => exact ⟨5, m, dst, rfl⟩
  | add0D m dst => exact ⟨6, m, dst, rfl⟩
  | sub0D m dst => exact ⟨7, m, dst, rfl⟩
  | shlA m dst => exact ⟨8, m, dst, rfl⟩
  | shrA m dst => exact ⟨9, m, dst, rfl⟩
  | shlB m dst => exact ⟨10, m, dst, rfl⟩
  | shrB m dst => exact ⟨11, m, dst, rfl⟩
  | shlC m dst => exact ⟨12, m, dst, rfl⟩
  | shrC m dst => exact ⟨13, m, dst, rfl⟩
  | shlD m dst => exact ⟨14, m, dst, rfl⟩
  | shrD m dst => exact ⟨15, m, dst, rfl⟩
  | addAB m dst => exact ⟨16, m, dst, rfl⟩
  | subAB m dst => exact ⟨17, m, dst, rfl⟩
  | addCB m dst => exact ⟨18, m, dst, rfl⟩
  | subCB m dst => exact ⟨19, m, dst, rfl⟩
  | addCD m dst => exact ⟨20, m, dst, rfl⟩
  | subCD m dst => exact ⟨21, m, dst, rfl⟩
  | addAD m dst => exact ⟨22, m, dst, rfl⟩
  | subAD m dst => exact ⟨23, m, dst, rfl⟩
  | addAIO m dst => exact ⟨24, m, dst, rfl⟩
  | subAIO m dst => exact ⟨25, m, dst, rfl⟩
  | add0K m dst => exact ⟨26, m, dst, rfl⟩
  | sub0K m dst => exact ⟨27, m, dst, rfl⟩
  | addCIO m dst => exact ⟨28, m, dst, rfl⟩
  | subCIO m dst => exact ⟨29, m, dst, rfl⟩
  | addR5 m dst => exact ⟨30, m, dst, rfl⟩
  | subR5 m dst => exact ⟨31, m, dst, rfl⟩
  | _ => exact nomatch h

/-- From s to t a pass and the steps around it keep KR, IDLE, HOLD and BUSY, and may clear COND but not set it. -/
structure KeepsBesidesPass (s t : State) : Prop where
  kr : t.kr = s.kr
  hold : t.hold = s.hold
  busy : t.busy = s.busy
  cond : t.cond = true → s.cond = true

theorem KeepsBesidesPass.trans {s t u : State} (h : KeepsBesidesPass s t) (k : KeepsBesidesPass t u) :
    KeepsBesidesPass s u where
  kr := k.kr.trans h.kr
  hold := k.hold.trans h.hold
  busy := k.busy.trans h.busy
  cond := fun set => h.cond (k.cond set)

theorem KeepsBesidesPass.of_eq {s t : State} (kr : t.kr = s.kr) (hold : t.hold = s.hold) (busy : t.busy = s.busy)
    (cond : t.cond = s.cond) : KeepsBesidesPass s t := ⟨kr, hold, busy, fun set => cond ▸ set⟩

theorem exchange_keepsBesidesPass (p q : Reg) (m : MaskDesc) (s : State) :
    KeepsBesidesPass s (exchange p q m s) :=
  .of_eq (exchange_kr ..) (exchange_hold ..) (exchange_busy ..) (exchange_cond ..)

theorem alu_keepsBesidesPass (k : Kind) (X Y : Digits) (t : Target) (m : MaskDesc) (s : State) :
    KeepsBesidesPass s (alu k X Y t m s) := by
  by_cases hm : m.HasWindow
  · obtain ⟨D, r, c, hpass, -, hc, -⟩ := alu_spec k X Y t m s hm
    rw [hpass]
    exact ⟨setTarget_kr .., setTarget_hold .., setTarget_busy .., fun set => condAfter_imp (hc ▸ set)⟩
  · rw [alu_malformed _ _ _ _ _ _ hm]
    exact .of_eq rfl rfl rfl rfl

theorem arithOn_keepsBesidesPass (k : Kind) (X Y : Digits) (m : MaskDesc) (dst : Dest) (s : State) :
    KeepsBesidesPass s (arithOn k X Y m dst s) := by
  cases dst with
  | io =>
    have cleared : KeepsBesidesPass s { s with ioOut := zeroDigits } := .of_eq rfl rfl rfl rfl
    rw [arithOn_io]
    exact (cleared.trans (alu_keepsBesidesPass ..)).trans (.of_eq rfl rfl rfl rfl)
  | a | b | c | d =>
    rw [arithOn_reg (h := rfl)]
    exact alu_keepsBesidesPass ..
  | xab | xcd | xae =>
    rw [arithOn_exchange (h := rfl)]
    exact (alu_keepsBesidesPass ..).trans (exchange_keepsBesidesPass ..)

theorem arithEntry_keepsBesidesPass (j : Fin 32) (mi : BitVec 4) (dst : Dest) (s : State) :
    KeepsBesidesPass s (arithEntry j mi dst s) := by
  unfold arithEntry
  rw [arith_eq]
  exact arithOn_keepsBesidesPass ..

/-- A pass that does not write IOOUT leaves the IO latch and its marker alone. -/
theorem alu_io {t : Target} (ht : t ≠ .ioOut) (k : Kind) (X Y : Digits) (m : MaskDesc) (s : State) :
    (alu k X Y t m s).ioOut = s.ioOut ∧ (alu k X Y t m s).ioValid = s.ioValid := by
  unfold alu
  split
  · exact ⟨rfl, rfl⟩
  · cases t with
    | ioOut => exact absurd rfl ht
    | none => exact ⟨rfl, rfl⟩
    | reg r => exact ⟨setReg_ioOut .., setReg_ioValid ..⟩

theorem arithOn_keeps_io {dst : Dest} (hdst : dst ≠ .io) (k : Kind) (X Y : Digits) (m : MaskDesc) (s : State) :
    (arithOn k X Y m dst s).ioOut = s.ioOut ∧ (arithOn k X Y m dst s).ioValid = s.ioValid := by
  cases dst with
  | io => exact absurd rfl hdst
  | a | b | c | d =>
    rw [arithOn_reg (h := rfl)]
    exact alu_io (t := .reg _) nofun ..
  | xab | xcd | xae =>
    rw [arithOn_exchange (h := rfl), exchange_ioOut, exchange_ioValid]
    exact alu_io (t := .none) nofun ..

/-- The IO latch and its marker are written by an arithmetic instruction with the IO destination only. -/
theorem arithEntry_io {dst : Dest} (hdst : dst ≠ .io) (j : Fin 32) (mi : BitVec 4) (s : State) :
    (arithEntry j mi dst s).ioOut = s.ioOut ∧ (arithEntry j mi dst s).ioValid = s.ioValid := by
  unfold arithEntry
  rw [arith_eq]
  exact arithOn_keeps_io hdst ..

theorem arithEntry_ioValid (j : Fin 32) (mi : BitVec 4) (s : State) : (arithEntry j mi .io s).ioValid = true := by
  unfold arithEntry
  rw [arith_eq, arithOn_io]

/-! The other instructions -/

/-- The digit registers and the IO latch, which only arithmetic writes (10_state.md R21, R39). -/
structure KeepsDigits (s t : State) : Prop where
  reg : ∀ r, t.reg r = s.reg r
  ioOut : t.ioOut = s.ioOut
  ioValid : t.ioValid = s.ioValid

theorem KeepsDigits.refl (s : State) : KeepsDigits s s := ⟨fun _ => rfl, rfl, rfl⟩

theorem KeepsDigits.trans {s t u : State} (h : KeepsDigits s t) (k : KeepsDigits t u) : KeepsDigits s u where
  reg r := (k.reg r).trans (h.reg r)
  ioOut := k.ioOut.trans h.ioOut
  ioValid := k.ioValid.trans h.ioValid

/-- Where each of the five registers is kept, so are all. -/
theorem KeepsDigits.of_eq {s t : State} (a : t.regA = s.regA) (b : t.regB = s.regB) (c : t.regC = s.regC)
    (d : t.regD = s.regD) (e : t.regE = s.regE) (ioOut : t.ioOut = s.ioOut) (ioValid : t.ioValid = s.ioValid) :
    KeepsDigits s t where
  reg r := by cases r <;> assumption
  ioOut := ioOut
  ioValid := ioValid

theorem rearm_keepsDigits (s : State) : KeepsDigits s (rearm s) := by
  apply KeepsDigits.of_eq <;> simp

theorem clearCondIf_keepsDigits (b : Bool) (s : State) : KeepsDigits s (clearCondIf b s) := by
  apply KeepsDigits.of_eq <;> simp

theorem waitDigit_keepsDigits (b : BitVec 4) (s : State) : KeepsDigits s (waitDigit b s).1 := by
  obtain ⟨-, h⟩ | ⟨-, h⟩ := waitDigit_spec b s <;> rw [h]
  · exact .refl s
  · exact .of_eq rfl rfl rfl rfl rfl rfl rfl

theorem fullScan_keepsDigits (mask : KeyRow) (s : State) : KeepsDigits s (fullScan mask s).1 := by
  obtain ⟨-, h⟩ | ⟨-, -, h⟩ | ⟨-, -, h⟩ := fullScan_spec mask s <;> rw [h]
  · exact .of_eq rfl rfl rfl rfl rfl rfl rfl
  · exact .of_eq rfl rfl rfl rfl rfl rfl rfl
  · exact .refl s

/-- No instruction but the arithmetic ones writes a digit register or the IO latch. -/
theorem exec_keepsDigits {i : Instr} (hi : instrClass i ≠ .arith) (s : State) :
    ∃ t, exec i s = .next t ∧ KeepsDigits s t := by
  have entry := rearm_keepsDigits s
  cases i with
  | br => exact ⟨_, rfl, .of_eq rfl rfl rfl rfl rfl rfl rfl⟩
  | frsv | waitbusy | wrsv14 | wrsv15 => exact ⟨_, rfl, entry⟩
  | tfa | tfb | tkr | ktest => exact ⟨_, rfl, entry.trans (clearCondIf_keepsDigits ..)⟩
  | kscan => exact ⟨_, rfl, entry.trans (fullScan_keepsDigits ..)⟩
  | waitd => exact ⟨_, rfl, entry.trans (waitDigit_keepsDigits ..)⟩
  | tbusy => exact ⟨_, rfl, entry.trans (by split <;> exact .of_eq rfl rfl rfl rfl rfl rfl rfl)⟩
  | sfa | zfa | ifa | xfab | skr | cfab | r5fa | sfb | zfb | ifb | zkr | cfba | r5fb | clridle | clrfa | inckr | far5
  | fbr5 | ldr5 | krr5 | r5kr | setidle | clrfb | extkr | xkrsr =>
    exact ⟨_, rfl, entry.trans (.of_eq rfl rfl rfl rfl rfl rfl rfl)⟩
  | _ => exact absurd rfl hi

/-- Settles O29. -/
theorem digitRegistersByArithmeticOnly : Obligations.DigitRegistersByArithmeticOnly := by
  intro i s hi
  obtain ⟨t, ht, kept⟩ := exec_keepsDigits hi s
  exact ⟨t, ht, kept.reg, kept.ioOut⟩

/-- Settles O30: what `exec_keepsOutsideDecoder` says field by field. -/
theorem decoderWritesNoBusField : Obligations.DecoderWritesNoBusField := by
  intro i s
  obtain ⟨t, ht, kept⟩ := exec_keepsOutsideDecoder i s
  refine ⟨t, ht, ?_⟩
  rw [kept.bus, kept.ilOp, kept.ilAddr, kept.condL, kept.sin, kept.late, kept.digit, kept.extSnap, kept.keySnap,
    kept.resetCnt, kept.stopReq, kept.ended, kept.cfg, kept.env]

/-- Settles O41: the rotation of EXT, bit by bit. -/
theorem extkrReadsTheBusBack : Obligations.ExtkrReadsTheBusBack := by
  intro b s
  have run : exec (.extkr b) s = .next { entered s with kr := rotl16 s.bus.ext } :=
    exec_eq_of_rearm (fun t => { t with kr := rotl16 t.bus.ext }) rfl
  refine ⟨⟨encodeWT_eq_ofNat b 12, rfl⟩, fun _ => rfl, ⟨_, run, fun i => ?_⟩, fun v published => ?_⟩
  · rw [getLsbD_rotl16 _ _ (Nat.mod_lt _ (by decide))]
    congr 1
    omega
  · rw [run, published, rotl16_rotr16]

/-! HOLD and the control result -/

/-- From s to t COND is not set, BUSY is not set, and HOLD is set only if w says so. -/
structure FlagsAfter (w : Bool) (s t : State) : Prop where
  hold : t.hold = (s.hold || w)
  cond : t.cond = true → s.cond = true
  busy : t.busy = true → s.busy = true

theorem FlagsAfter.of_eq {s t : State} (hold : t.hold = s.hold) (cond : t.cond = s.cond) (busy : t.busy = s.busy) :
    FlagsAfter false s t := ⟨by rw [hold, Bool.or_false], fun set => cond ▸ set, fun set => busy ▸ set⟩

theorem KeepsBesidesPass.flagsAfter {s t : State} (h : KeepsBesidesPass s t) : FlagsAfter false s t :=
  ⟨by rw [h.hold, Bool.or_false], h.cond, fun set => h.busy ▸ set⟩

theorem clearCondIf_flagsAfter (b : Bool) (s : State) : FlagsAfter false s (clearCondIf b s) := by
  rw [clearCondIf_eq]
  exact ⟨(Bool.or_false _).symm, fun set => (Bool.and_eq_true_iff.mp set).1, id⟩

theorem waitDigit_flagsAfter (b : BitVec 4) (s : State) :
    FlagsAfter (decide ((waitDigit b s).2 = .needsHold)) s (waitDigit b s).1 := by
  obtain ⟨-, h⟩ | ⟨-, h⟩ := waitDigit_spec b s <;> rw [h]
  · exact .of_eq rfl rfl rfl
  · exact ⟨(Bool.or_true _).symm, id, id⟩

theorem fullScan_flagsAfter (mask : KeyRow) (s : State) :
    FlagsAfter (decide ((fullScan mask s).2 = .needsHold)) s (fullScan mask s).1 := by
  obtain ⟨-, h⟩ | ⟨-, -, h⟩ | ⟨-, -, h⟩ := fullScan_spec mask s <;> rw [h]
  · exact ⟨(Bool.or_false _).symm, nofun, id⟩
  · exact ⟨(Bool.or_true _).symm, id, id⟩
  · exact .of_eq rfl rfl rfl

theorem controlResult_arInstr (j : Fin 32) (mi : BitVec 4) (dst : Dest) (s : State) :
    controlResult (arInstr j mi dst) s = .completed := by
  fin_cases j <;> rfl

/-- After its entry an instruction sets neither COND nor BUSY, and it sets HOLD exactly where its control result is
NeedsHold. -/
theorem exec_flagsAfter {i : Instr} (hi : instrClass i ≠ .branch) (s : State) :
    ∃ t, exec i s = .next t ∧ FlagsAfter (decide (controlResult i s = .needsHold)) (rearm s) t := by
  by_cases har : instrClass i = .arith
  · obtain ⟨j, mi, dst, rfl⟩ := exists_arInstr har
    rw [controlResult_arInstr, exec_arInstr, ← rearm_eq_entered]
    exact ⟨_, rfl, (arithEntry_keepsBesidesPass ..).flagsAfter⟩
  cases i with
  | br => exact absurd rfl hi
  | frsv | waitbusy | wrsv14 | wrsv15 => exact ⟨_, rfl, .of_eq rfl rfl rfl⟩
  | tfa | tfb | tkr | ktest => exact ⟨_, rfl, clearCondIf_flagsAfter ..⟩
  | kscan => exact ⟨_, rfl, fullScan_flagsAfter ..⟩
  | waitd => exact ⟨_, rfl, waitDigit_flagsAfter ..⟩
  | tbusy =>
    refine ⟨_, rfl, ?_⟩
    split
    · exact ⟨(Bool.or_false _).symm, nofun, nofun⟩
    · exact .of_eq rfl rfl rfl
  | sfa | zfa | ifa | xfab | skr | cfab | r5fa | sfb | zfb | ifb | zkr | cfba | r5fb | clridle | clrfa | inckr | far5
  | fbr5 | ldr5 | krr5 | r5kr | setidle | clrfb | extkr | xkrsr =>
    exact ⟨_, rfl, .of_eq rfl rfl rfl⟩
  | _ => exact absurd rfl har

/-- HOLD after any instruction. -/
theorem exec_hold (i : Instr) (s : State) :
    ∃ t, exec i s = .next t ∧ t.hold = (s.hold || decide (controlResult i s = .needsHold)) := by
  by_cases hi : instrClass i = .branch
  · obtain ⟨x, rfl⟩ := (instrClass_eq_branch_iff i).mp hi
    exact ⟨_, exec_br x s, (Bool.or_false _).symm⟩
  · obtain ⟨t, ht, after⟩ := exec_flagsAfter hi s
    exact ⟨t, ht, by rw [after.hold, rearm_hold]⟩

/-- Settles O31. -/
theorem needsHoldExactlyWithHold : Obligations.NeedsHoldExactlyWithHold := by
  intro i s clear
  obtain ⟨t, ht, hold⟩ := exec_hold i s
  exact ⟨t, ht, by rw [hold, clear, Bool.false_or, decide_eq_true_iff]⟩

/-- Only the waiting instructions need HOLD (44_wait_ops.md R262). -/
theorem waits_of_needsHold {i : Instr} {s : State} (h : controlResult i s = .needsHold) : waits i = true := by
  cases i with
  | kscan | waitd => rfl
  | _ => exact nomatch h

/-! IOVALID: whether an instruction sets it does not depend on the state -/

theorem exec_ioValid (i : Instr) : ∃ w : Bool, ∀ s, ∃ t, exec i s = .next t ∧ t.ioValid = (s.ioValid || w) := by
  by_cases har : instrClass i = .arith
  · obtain ⟨j, mi, dst, rfl⟩ := exists_arInstr har
    refine ⟨decide (dst = .io), fun s => ⟨_, exec_arInstr j mi dst s, ?_⟩⟩
    by_cases hdst : dst = .io
    · rw [decide_eq_true hdst, Bool.or_true, hdst, arithEntry_ioValid]
    · rw [decide_eq_false hdst, Bool.or_false, (arithEntry_io hdst j mi _).2, entered_ioValid]
  · refine ⟨false, fun s => ?_⟩
    obtain ⟨t, ht, kept⟩ := exec_keepsDigits har s
    exact ⟨t, ht, by rw [kept.ioValid, Bool.or_false]⟩

end Sys2Proof.Machine
end

section
/-!
SUPPORT. The core's invocation phase by phase (48_coordinator.md R340 to R357): which action it is, what it does to the
bus, and which bus fields it writes (20_memory.md R71, R76).
-/
namespace Sys2Proof.Machine

open Sys2Proof

/-- The phases of normal mode in which the core does nothing but publish IDLE: those that R340 does not name. -/
def Bus.Unnamed (b : Bus) : Prop :=
  (b.write = true → b.sstate ∉ [0#4, 1#4, 2#4, 14#4]) ∧ (b.write = false → b.sstate ∉ [2#4, 15#4])

theorem normalPhase_unnamed {s : State} (h : s.bus.Unnamed) : normalPhase s = .next s := by
  obtain ⟨write, read⟩ := h
  unfold normalPhase
  split
  next hw hs => exact absurd (by simp [BitVec.eq_of_toNat_eq (y := 0#4) hs]) (write hw)
  next hw hs => exact absurd (by simp [BitVec.eq_of_toNat_eq (y := 1#4) hs]) (write hw)
  next hw hs => exact absurd (by simp [BitVec.eq_of_toNat_eq (y := 2#4) hs]) (write hw)
  next hr hs => exact absurd (by simp [BitVec.eq_of_toNat_eq (y := 2#4) hs]) (read hr)
  next hw hs => exact absurd (by simp [BitVec.eq_of_toNat_eq (y := 14#4) hs]) (write hw)
  next hr hs => exact absurd (by simp [BitVec.eq_of_toNat_eq (y := 15#4) hs]) (read hr)
  next => rfl

/-- The seven kinds of phase of normal mode. -/
inductive NormalPhase (s : State) : Prop
  | s0Write (at0 : s.AtS0Write)
  | s1Write (hs : s.bus.sstate = 1) (hw : s.bus.write = true)
  | s2Write (hs : s.bus.sstate = 2) (hw : s.bus.write = true)
  | s2Read (hs : s.bus.sstate = 2) (hr : s.bus.write = false)
  | s14Write (hs : s.bus.sstate = 14) (hw : s.bus.write = true)
  | s15Read (at15 : s.AtS15Read)
  | unnamed (h : s.bus.Unnamed)

theorem normalPhase_exhaustive (s : State) : NormalPhase s := by
  by_cases h : s.bus.Unnamed
  · exact .unnamed h
  · unfold Bus.Unnamed at h
    cases hw : s.bus.write with
    | true =>
      have named : s.bus.sstate = 0 ∨ s.bus.sstate = 1 ∨ s.bus.sstate = 2 ∨ s.bus.sstate = 14 := by
        by_contra none
        exact h ⟨fun _ mem => none (by simpa using mem), by simp [hw]⟩
      obtain h0 | h1 | h2 | h14 := named
      · exact .s0Write ⟨h0, hw⟩
      · exact .s1Write h1 hw
      · exact .s2Write h2 hw
      · exact .s14Write h14 hw
    | false =>
      have named : s.bus.sstate = 2 ∨ s.bus.sstate = 15 := by
        by_contra none
        exact h ⟨by simp [hw], fun _ mem => none (by simpa using mem)⟩
      obtain h2 | h15 := named
      · exact .s2Read h2 hw
      · exact .s15Read ⟨h15, hw⟩

/-- Settles O15. -/
theorem otherPhasesChangeNothing : Obligations.OtherPhasesChangeNothing := by
  intro s normal write read
  have same := (publishIdle_withinPhase s).phase
  have unnamed : (publishIdle s).bus.Unnamed := by
    unfold Bus.Unnamed
    rw [same.write, same.sstate]
    exact ⟨write, read⟩
  rw [coreProcess_normal s normal, normalPhase_unnamed unnamed, publishIdle_eq]

/-! Boot mode -/

/-- Everything a phase of boot mode can do after the publication of IDLE (R341, R342). -/
theorem bootPhase_eq (s : State) :
    bootPhase s =
      { s with
        bus := { s.bus with
          ext := if s.AtS0Write then 0x0001 else s.bus.ext
          display := if s.bus.sstate = 14 ∧ s.bus.write = true then blankDisplay else s.bus.display }
        resetCnt := if s.AtS15Read then s.resetCnt - 1 else s.resetCnt
        ilOp := if s.AtS15Read ∧ s.resetCnt - 1 = 0 then s.bus.irg else s.ilOp
        ilAddr := if s.AtS15Read ∧ s.resetCnt - 1 = 0 then s.bus.fetchAddr else s.ilAddr
        stopReq := s.stopReq || decide (s.AtS15Read ∧ s.resetCnt - 1 = 0 ∧ s.bus.fetchAddr = .stop) } := by
  unfold bootPhase
  split
  next hw hs =>
    have h0 : s.bus.sstate = 0 := BitVec.eq_of_toNat_eq hs
    simp [hw, h0]
  next hw hs =>
    have h14 : s.bus.sstate = 14 := BitVec.eq_of_toNat_eq hs
    simp [hw, h14, blankOutputs]
  next hr hs =>
    have at15 : s.AtS15Read := ⟨BitVec.eq_of_toNat_eq hs, hr⟩
    have off0 : ¬ s.AtS0Write := fun ⟨_, hw⟩ => by simp [hr] at hw
    have off14 : ¬ (s.bus.sstate = 14 ∧ s.bus.write = true) := fun ⟨_, hw⟩ => by simp [hr] at hw
    simp only [if_neg off0, if_neg off14, if_pos at15, and_iff_right at15]
    by_cases last : s.resetCnt - 1 = 0
    · simp only [if_pos last, and_iff_right last]
      rfl
    · have going : ¬ (s.resetCnt - 1 = 0 ∧ s.bus.fetchAddr = .stop) := fun h => last h.1
      simp only [if_neg last, decide_eq_false going, Bool.or_false]
  next not0 not14 not15 =>
    have off0 : ¬ s.AtS0Write := fun ⟨h0, hw⟩ => not0 hw (by simp [h0])
    have off14 : ¬ (s.bus.sstate = 14 ∧ s.bus.write = true) := fun ⟨h14, hw⟩ => not14 hw (by simp [h14])
    have off15 : ¬ s.AtS15Read := fun ⟨h15, hr⟩ => not15 hr (by simp [h15])
    simp only [off0, off14, off15, if_false, false_and, decide_false, Bool.or_false]

/-- Settles O14: the boot phase after the publication of IDLE. -/
theorem bootPhasesExecuteNothing : Obligations.BootPhasesExecuteNothing := by
  intro s boot
  have last : s.resetCnt - 1 = 0 ↔ s.resetCnt = 1 := by omega
  rw [coreProcess_boot s boot, bootPhase_eq, publishIdle_eq]
  simp only [State.AtS0Write, State.AtS15Read, last]

/-! The step -/

/-- Settles O10. -/
theorem stepAnswersUntilTheEnd : Obligations.StepAnswersUntilTheEnd := by
  intro s
  constructor
  · intro running
    obtain ⟨u, hstep, -⟩ := step_eq_advance s running
    exact ⟨_, hstep⟩
  · intro ended
    simp [step, runPhase, ended]

/-- A step of a run under way is the core's invocation between the other chips, and then the sequencer's move. -/
theorem step_eq_of_coreProcess {s u : State} (running : s.ended = false) (h : coreProcess (beforeCore s) = .next u) :
    step s = .next (advance (chipWrites s.writesAfter u)) :=
  (runPhase_running s running).trans ((onNext_eq_next ..).mpr ⟨u, h, rfl⟩)

/-! The two phases that run an instruction, by what runs -/

theorem exists_s0Write (s : State) :
    ∃ u, s0WriteExecute s = .next u ∧ s0Write s = .next (publishKr (publishIo u)) := by
  obtain ⟨u, hu, -⟩ := s0WriteExecute_withinPhase s
  exact ⟨u, hu, (onNext_eq_next ..).mpr ⟨u, hu, rfl⟩⟩

theorem s15Read_cases (s : State) :
    (s.late = false ∧ s15Read s = .next (fetchLatch s)) ∨
    (s.late = true ∧ ∃ u, exec (decode s.ilOp) { s with sin := s.bus.io } = .next u ∧
      s15Read s = .next (fetchLatch { u with late := false })) := by
  unfold s15Read
  obtain late | early := Bool.eq_false_or_eq_true s.late
  · obtain ⟨u, hu, -⟩ := exec_keepsOutsideDecoder (decode s.ilOp) { s with sin := s.bus.io }
    refine .inr ⟨late, u, hu, ?_⟩
    rw [if_pos late, runDecoder, hu]
    rfl
  · exact .inl ⟨early, by rw [early]; rfl⟩

/-! One invocation as at most one run of the decoder, with the coordinator around it -/

/-- What the coordinator does around a run of the decoder keeps COND, JUMP, BUSY, the parameters and the schedule. -/
structure Around (s t : State) : Prop where
  cond : t.cond = s.cond
  jump : t.jump = s.jump
  busy : t.busy = s.busy
  cfg : t.cfg = s.cfg
  env : t.env = s.env

theorem Around.refl (s : State) : Around s s := ⟨rfl, rfl, rfl, rfl, rfl⟩

theorem Around.trans {s t u : State} (h : Around s t) (k : Around t u) : Around s u :=
  ⟨k.cond.trans h.cond, k.jump.trans h.jump, k.busy.trans h.busy, k.cfg.trans h.cfg, k.env.trans h.env⟩

theorem publishIdle_around (s : State) : Around s (publishIdle s) := by
  constructor <;> simp

theorem publish_around (s : State) : Around s (publishKr (publishIo s)) := by
  constructor <;> simp

/-- From s to u the decoder runs at most once, with the coordinator around it. -/
def AroundRun (s u : State) : Prop :=
  ∃ v w, Around s v ∧ (w = v ∨ ∃ i, exec i v = .next w) ∧ Around w u

theorem Around.aroundRun {s u : State} (h : Around s u) : AroundRun s u := ⟨s, s, .refl s, .inl rfl, h⟩

theorem normalPhase_aroundRun (s : State) : ∃ u, normalPhase s = .next u ∧ AroundRun s u := by
  cases normalPhase_exhaustive s with
  | s0Write at0 =>
    obtain ⟨w, hw, hs0⟩ := exists_s0Write s
    refine ⟨_, (normalPhase_s0Write at0.1 at0.2).trans hs0, s0WriteEnter s, w, ⟨rfl, rfl, rfl, rfl, rfl⟩, ?_,
      publish_around w⟩
    obtain ⟨-, late⟩ | ⟨-, early⟩ := s0WriteExecute_cases s
    · exact .inl (Host.Outcome.next.inj (hw.symm.trans late))
    · exact .inr ⟨_, early.symm.trans hw⟩
  | s1Write hs hw => exact ⟨_, normalPhase_s1Write hs hw, Around.aroundRun (by constructor <;> simp)⟩
  | s2Write hs hw => exact ⟨_, normalPhase_s2Write hs hw, Around.aroundRun (by constructor <;> simp)⟩
  | s2Read hs hr => exact ⟨_, normalPhase_s2Read hs hr, Around.aroundRun (by constructor <;> simp)⟩
  | s14Write hs hw => exact ⟨_, normalPhase_s14Write hs hw, Around.aroundRun ⟨rfl, rfl, rfl, rfl, rfl⟩⟩
  | s15Read at15 =>
    rw [normalPhase_s15Read at15.1 at15.2]
    obtain ⟨-, early⟩ | ⟨-, w, hw, late⟩ := s15Read_cases s
    · exact ⟨_, early, Around.aroundRun ⟨rfl, rfl, rfl, rfl, rfl⟩⟩
    · exact ⟨_, late, { s with sin := s.bus.io }, w, ⟨rfl, rfl, rfl, rfl, rfl⟩, .inr ⟨_, hw⟩,
        ⟨rfl, rfl, rfl, rfl, rfl⟩⟩
  | unnamed h => exact ⟨s, normalPhase_unnamed h, (Around.refl s).aroundRun⟩

theorem coreProcess_aroundRun (s : State) : ∃ u, coreProcess s = .next u ∧ AroundRun s u := by
  obtain normal | boot := Nat.eq_zero_or_pos s.resetCnt
  · obtain ⟨u, hu, v, w, before, run, after⟩ := normalPhase_aroundRun (publishIdle s)
    exact ⟨u, (coreProcess_normal s normal).trans hu, v, w, (publishIdle_around s).trans before, run, after⟩
  · exact ⟨_, bootPhasesExecuteNothing s boot, Around.aroundRun ⟨rfl, rfl, rfl, rfl, rfl⟩⟩

/-- What follows the core's invocation in a step. -/
theorem afterCore_around (ws : List BusWrite) (u : State) : Around u (advance (chipWrites ws u)) := by
  constructor <;> simp

theorem AroundRun.sameSetup {s u : State} (h : AroundRun s u) : u.cfg = s.cfg ∧ u.env = s.env := by
  obtain ⟨v, w, before, rfl | ⟨i, run⟩, after⟩ := h
  · exact ⟨after.cfg.trans before.cfg, after.env.trans before.env⟩
  · obtain ⟨t, ht, kept⟩ := exec_keepsOutsideDecoder i v
    obtain rfl : w = t := Host.Outcome.next.inj (run.symm.trans ht)
    exact ⟨after.cfg.trans (kept.cfg.trans before.cfg), after.env.trans (kept.env.trans before.env)⟩

/-- Settles O21: the frame is used up before the core's invocation, and nothing else touches either. -/
theorem parametersAreFixed : Obligations.ParametersAreFixed := by
  intro s running
  obtain ⟨u, hu, core⟩ := coreProcess_aroundRun (beforeCore s)
  obtain ⟨cfg, env⟩ := core.sameSetup
  have after := afterCore_around s.writesAfter u
  exact ⟨_, step_eq_of_coreProcess running hu, after.cfg.trans (cfg.trans (beforeCore_cfg s)),
    after.env.trans (env.trans (beforeCore_env s))⟩

/-! COND and BUSY -/

/-- One run of the decoder sets COND by the re-arm only, which clears JUMP, and never sets BUSY. -/
theorem exec_cond_busy {i : Instr} {s t : State} (h : exec i s = .next t) :
    (t.cond = true → s.cond = true ∨ s.jump = true ∧ t.jump = false) ∧ (t.busy = true → s.busy = true) := by
  by_cases hi : instrClass i = .branch
  · obtain ⟨x, rfl⟩ := (instrClass_eq_branch_iff i).mp hi
    obtain rfl := Host.Outcome.next.inj ((exec_br x s).symm.trans h)
    exact ⟨.inl, id⟩
  · obtain ⟨t₁, ht₁, after⟩ := exec_flagsAfter hi s
    obtain ⟨t₂, ht₂, cleared⟩ := exec_clears_jump hi s
    obtain rfl := Host.Outcome.next.inj (h.symm.trans ht₁)
    obtain rfl := Host.Outcome.next.inj (h.symm.trans ht₂)
    refine ⟨fun set => ?_, fun set => rearm_busy s ▸ after.busy set⟩
    have entered_cond := after.cond set
    rw [rearm_eq_entered] at entered_cond
    obtain cond | jump := Bool.or_eq_true_iff.mp entered_cond
    · exact .inl cond
    · exact .inr ⟨jump, cleared⟩

theorem AroundRun.cond_busy {s u : State} (h : AroundRun s u) :
    (u.cond = true → s.cond = true ∨ s.jump = true ∧ u.jump = false) ∧ (u.busy = true → s.busy = true) := by
  obtain ⟨v, w, before, rfl | ⟨i, run⟩, after⟩ := h
  · rw [after.cond, after.busy, before.cond, before.busy]
    exact ⟨.inl, id⟩
  · rw [after.cond, after.busy, after.jump, ← before.cond, ← before.busy, ← before.jump]
    exact exec_cond_busy run

/-- Settles O26. -/
theorem condRisesOnlyByTheRearm : Obligations.CondRisesOnlyByTheRearm := by
  intro s running
  obtain ⟨u, hu, core⟩ := coreProcess_aroundRun (beforeCore s)
  have after := afterCore_around s.writesAfter u
  refine ⟨_, step_eq_of_coreProcess running hu, fun clear set => ?_⟩
  have rises := core.cond_busy.1 (after.cond ▸ set)
  rw [beforeCore_cond, beforeCore_jump, clear, ← after.jump] at rises
  exact rises.resolve_left nofun

theorem beforeCore_busy (s : State) : (beforeCore s).busy = (s.busy || s.frame.setBusy) := by
  obtain ⟨b, hb, -⟩ := beforeCore_spec s
  rw [hb]

/-- The sequencer's move changes the bus, and of it not idle, and whether the run has ended. -/
theorem advance_frame (s : State) :
    { advance s with bus := s.bus, ended := s.ended } = s ∧ (advance s).bus.idle = s.bus.idle := by
  obtain ⟨-, h⟩ | ⟨-, -, h⟩ | ⟨-, -, -, h⟩ | ⟨-, -, -, h⟩ := advance_cases s <;> rw [h] <;> exact ⟨rfl, rfl⟩

/-- Settles O27: the core sets no BUSY, and what surrounds it is `beforeCore_spec`, `chipWrites_spec` and
`advance_cases`. -/
theorem busySetOnlyByTheEnvironment : Obligations.BusySetOnlyByTheEnvironment := by
  refine ⟨fun s running => ?_, fun s => ?_⟩
  · obtain ⟨u, hu, core⟩ := coreProcess_aroundRun (beforeCore s)
    have after := afterCore_around s.writesAfter u
    refine ⟨_, step_eq_of_coreProcess running hu, fun clear set => ?_⟩
    have before := core.cond_busy.2 (after.busy ▸ set)
    rwa [beforeCore_busy, clear, Bool.false_or] at before
  · obtain ⟨b, hb, -⟩ := beforeCore_spec s
    obtain ⟨a, ha, -⟩ := chipWrites_spec s.writesAfter s
    obtain ⟨hm, idle⟩ := advance_frame s
    dsimp only
    rw [hb, ha]
    exact ⟨rfl, rfl, rfl, rfl, rfl, rfl, rfl, rfl, rfl, rfl, rfl, hm, idle⟩

end Sys2Proof.Machine
end

section
/-!
SUPPORT. What one invocation of the core leaves on the bus: in which phases it writes which field (20_memory.md R71,
R76), and which of the core's state shows there (10_state.md R49).
-/
namespace Sys2Proof.Machine

open Sys2Proof

/-! Which fields the core writes -/

/-- Whether IOVALID is 1 after the early run depends on the pending word, the operand table and IOVALID only. -/
theorem s0WriteExecute_ioValid {s t u v : State} (ilOp : t.ilOp = s.ilOp) (cfg : t.cfg = s.cfg)
    (ioValid : t.ioValid = s.ioValid) (hu : s0WriteExecute s = .next u) (hv : s0WriteExecute t = .next v) :
    v.ioValid = u.ioValid := by
  cases late : isLate s.cfg.operandTable (decode s.ilOp) with
  | true =>
    rw [s0WriteExecute_of_late late] at hu
    rw [s0WriteExecute_of_late (by rw [ilOp, cfg, late])] at hv
    obtain rfl := Host.Outcome.next.inj hu
    obtain rfl := Host.Outcome.next.inj hv
    exact ioValid
  | false =>
    rw [s0WriteExecute_of_early late] at hu
    rw [s0WriteExecute_of_early (by rw [ilOp, cfg, late]), ilOp] at hv
    obtain ⟨w, sets⟩ := exec_ioValid (decode s.ilOp)
    obtain ⟨u', hu', uValid⟩ := sets (s0WriteEnter s)
    obtain ⟨v', hv', vValid⟩ := sets (s0WriteEnter t)
    obtain rfl := Host.Outcome.next.inj (hu.symm.trans hu')
    obtain rfl := Host.Outcome.next.inj (hv.symm.trans hv')
    rw [uValid, vValid, s0WriteEnter_ioValid, s0WriteEnter_ioValid, ioValid]

/-- In a write phase the core leaves IDLE on the bus, and EXT, IO and the display where it is not their phase; it writes
no other field. -/
structure WritesAsNamed (s t : State) : Prop where
  idle : t.bus.idle = s.idle
  ext : coreWrites s .ext = false → t.bus.ext = s.bus.ext
  io : coreWrites s .io = false → t.bus.io = s.bus.io
  display : coreWrites s .display = false → t.bus.display = s.bus.display
  others : t.bus = { s.bus with ext := t.bus.ext, io := t.bus.io, display := t.bus.display, idle := t.bus.idle }

theorem coreProcess_boot_writesAsNamed {s : State} (boot : 0 < s.resetCnt) (hw : s.bus.write = true) :
    ∃ t, coreProcess s = .next t ∧ WritesAsNamed s t := by
  refine ⟨_, bootPhasesExecuteNothing s boot, if_pos hw, fun kept => if_neg fun at0 => ?_, fun _ => rfl,
    fun kept => if_neg fun at14 => ?_, rfl⟩
  · have named : coreWrites s .ext = true := by simp [coreWrites, at0.1, boot]
    exact Bool.noConfusion (kept.symm.trans named)
  · have named : coreWrites s .display = true := by simp [coreWrites, at14.1]
    exact Bool.noConfusion (kept.symm.trans named)

/-- S0 write: EXT unless the word is EXTKR, and IO where IOVALID is 1 after the early run. -/
theorem coreProcess_s0Write_writesAsNamed {s : State} (normal : s.resetCnt = 0) (at0 : s.AtS0Write) :
    ∃ t, coreProcess s = .next t ∧ WritesAsNamed s t := by
  obtain ⟨hs, hw⟩ := at0
  have idle := publishIdle_of_write hw
  obtain ⟨u, hu, hs0⟩ := exists_s0Write (publishIdle s)
  obtain ⟨v, hv, -⟩ := s0WriteExecute_withinPhase s
  have kept := s0WriteExecute_keepsOutsideDecoder hu
  have valid : u.ioValid = v.ioValid :=
    s0WriteExecute_ioValid (publishIdle_ilOp s) (publishIdle_cfg s) (publishIdle_ioValid s) hv hu
  have bus : u.bus = { s.bus with idle := s.idle } := by rw [kept.bus, s0WriteEnter_bus, idle]
  have ilOp : u.ilOp = s.ilOp := by rw [kept.ilOp, s0WriteEnter_ilOp, publishIdle_ilOp]
  refine ⟨_, (coreProcess_normal s normal).trans
    ((normalPhase_s0Write (by rw [idle, hs]) (by rw [idle, hw])).trans hs0), ?_⟩
  rw [publish_eq]
  constructor <;> dsimp only <;> rw [bus]
  case ext =>
    intro silent
    have extkr : isExtkr s.ilOp = true := by simpa [coreWrites, hs, normal] using silent
    rw [ilOp, if_pos extkr]
  case io =>
    intro silent
    have invalid : v.ioValid = false := by simpa [coreWrites, hs, normal, hv] using silent
    rw [valid, invalid]
    rfl
  case display => exact fun _ => rfl

theorem coreProcess_writesAsNamed (s : State) (hw : s.bus.write = true) :
    ∃ t, coreProcess s = .next t ∧ WritesAsNamed s t := by
  obtain normal | boot := Nat.eq_zero_or_pos s.resetCnt
  case inr => exact coreProcess_boot_writesAsNamed boot hw
  obtain ⟨s1Write, s2Write, -, s14Write⟩ := signallingPhases s normal
  cases normalPhase_exhaustive s with
  | s0Write at0 => exact coreProcess_s0Write_writesAsNamed normal at0
  | s1Write hs _ =>
    refine ⟨_, s1Write hs hw, rfl, fun silent => if_neg ?_, fun _ => rfl, fun _ => rfl, rfl⟩
    simpa [coreWrites, hs, normal] using silent
  | s2Write hs _ =>
    refine ⟨_, s2Write hs hw, rfl, fun silent => if_neg ?_, fun _ => rfl, fun _ => rfl, rfl⟩
    simpa [coreWrites, hs, normal] using silent
  | s14Write hs _ =>
    refine ⟨_, s14Write hs hw, rfl, fun _ => rfl, fun _ => rfl, fun silent => ?_, rfl⟩
    simp [coreWrites, hs] at silent
  | s2Read _ hr => simp [hr] at hw
  | s15Read at15 => simp [at15.2] at hw
  | unnamed h => exact ⟨_, otherPhasesChangeNothing s normal h.1 h.2, if_pos hw, fun _ => rfl, fun _ => rfl,
      fun _ => rfl, rfl⟩

/-- Settles O17: in a read phase the bus is kept, in a write phase each field has its phases. -/
theorem coreWritesBusInWritePhasesOnly : Obligations.CoreWritesBusInWritePhasesOnly := by
  intro s
  cases hw : s.bus.write with
  | true =>
    obtain ⟨t, ht, named⟩ := coreProcess_writesAsNamed s hw
    exact ⟨t, ht, nofun, fun _ => named.idle, named.ext, named.io, named.display, named.others⟩
  | false =>
    obtain ⟨t, ht, within⟩ := coreProcess_withinPhase s
    have bus := within.phase.read hw
    exact ⟨t, ht, fun _ => bus, nofun, fun _ => by rw [bus], fun _ => by rw [bus], fun _ => by rw [bus], by rw [bus]⟩

/-! What the early run publishes -/

/-- Two states that agree on all that KR, the IO latch and its marker can depend on after one instruction. -/
structure SameShown (s t : State) : Prop where
  kr : t.kr = s.kr
  ioOut : t.ioOut = s.ioOut
  ioValid : t.ioValid = s.ioValid
  bus : t.bus = s.bus
  digit : t.digit = s.digit
  keySnap : t.keySnap = s.keySnap
  cfg : t.cfg = s.cfg

theorem rearm_sameShown {s t : State} (h : SameShown s t) : SameShown (rearm s) (rearm t) := by
  constructor <;> simp [h.kr, h.ioOut, h.ioValid, h.bus, h.digit, h.keySnap, h.cfg]

theorem SameShown.keyView {s t : State} (h : SameShown s t) (mask : KeyRow) : t.keyView mask = s.keyView mask := by
  unfold State.keyView State.keys
  rw [h.keySnap, h.cfg]

theorem fullScan_kr_congr (mask : KeyRow) {s t : State} (h : SameShown s t) :
    (fullScan mask t).1.kr = (fullScan mask s).1.kr := by
  have hit : t.keyHit mask = s.keyHit mask := by rw [State.keyHit, State.keyHit, h.keyView]
  unfold fullScan
  rw [hit, h.digit, h.keyView]
  split_ifs
  · rfl
  · exact h.kr
  · exact h.kr

theorem waitDigit_kr (b : BitVec 4) (s : State) : (waitDigit b s).1.kr = s.kr := by
  obtain ⟨-, h⟩ | ⟨-, h⟩ := waitDigit_spec b s <;> rw [h]

theorem tbusy_kr (s : State) :
    (if s.busy = true ∨ s.keys ≠ 0 then { s with cond := false, busy := false } else s).kr = s.kr := by
  split <;> rfl

/-- Only R5KR and XKRSR move into KR what does not show on the bus. -/
theorem exec_kr_congr {i : Instr} (har : instrClass i ≠ .arith) (r5kr : ∀ x, i ≠ .r5kr x) (xkrsr : ∀ b, i ≠ .xkrsr b)
    {s t : State} (h : SameShown s t) :
    ∃ u v, exec i s = .next u ∧ exec i t = .next v ∧ v.kr = u.kr := by
  have entry := rearm_sameShown h
  cases i with
  | br => exact ⟨_, _, rfl, rfl, h.kr⟩
  | r5kr x => exact absurd rfl (r5kr x)
  | xkrsr b => exact absurd rfl (xkrsr b)
  | tfa | tfb | tkr | ktest => exact ⟨_, _, rfl, rfl, by rw [clearCondIf_kr, clearCondIf_kr, entry.kr]⟩
  | kscan => exact ⟨_, _, rfl, rfl, fullScan_kr_congr _ entry⟩
  | waitd => exact ⟨_, _, rfl, rfl, by rw [waitDigit_kr, waitDigit_kr, entry.kr]⟩
  | tbusy => exact ⟨_, _, rfl, rfl, by rw [tbusy_kr, tbusy_kr, entry.kr]⟩
  | skr b => exact ⟨_, _, rfl, rfl, congrArg (setBit · b) entry.kr⟩
  | zkr b => exact ⟨_, _, rfl, rfl, congrArg (clearBit · b) entry.kr⟩
  | inckr => exact ⟨_, _, rfl, rfl, congrArg incrementKr entry.kr⟩
  | extkr => exact ⟨_, _, rfl, rfl, by simp only [entry.bus]⟩
  | frsv | waitbusy | wrsv14 | wrsv15 | sfa | zfa | ifa | xfab | cfab | r5fa | sfb | zfb | ifb | cfba | r5fb | clridle
  | clrfa | far5 | fbr5 | ldr5 | krr5 | setidle | clrfb =>
    exact ⟨_, _, rfl, rfl, entry.kr⟩
  | _ => exact absurd rfl har

/-- What an instruction that is none of the three kinds of R49 leaves in KR, the IO latch and its marker does not depend
on the hidden state. -/
theorem exec_shown_congr {i : Instr} (io : ∀ j mi, i ≠ arInstr j mi .io) (r5kr : ∀ x, i ≠ .r5kr x)
    (xkrsr : ∀ b, i ≠ .xkrsr b) {s t : State} (h : SameShown s t) :
    ∃ u v, exec i s = .next u ∧ exec i t = .next v ∧ v.kr = u.kr ∧ v.ioOut = u.ioOut ∧ v.ioValid = u.ioValid := by
  by_cases har : instrClass i = .arith
  · obtain ⟨j, mi, dst, rfl⟩ := exists_arInstr har
    have hdst : dst ≠ .io := fun is_io => io j mi (is_io ▸ rfl)
    have kept (w : State) : (arithEntry j mi dst (entered w)).kr = w.kr ∧
        (arithEntry j mi dst (entered w)).ioOut = w.ioOut ∧ (arithEntry j mi dst (entered w)).ioValid = w.ioValid :=
      ⟨(arithEntry_keepsBesidesPass j mi dst (entered w)).kr, arithEntry_io hdst j mi (entered w)⟩
    obtain ⟨krS, outS, validS⟩ := kept s
    obtain ⟨krT, outT, validT⟩ := kept t
    exact ⟨_, _, exec_arInstr j mi dst s, exec_arInstr j mi dst t, krT.trans (h.kr.trans krS.symm),
      outT.trans (h.ioOut.trans outS.symm), validT.trans (h.ioValid.trans validS.symm)⟩
  · obtain ⟨u, v, hu, hv, kr⟩ := exec_kr_congr har r5kr xkrsr h
    obtain ⟨u', hu', digitsU⟩ := exec_keepsDigits har s
    obtain ⟨v', hv', digitsV⟩ := exec_keepsDigits har t
    obtain rfl := Host.Outcome.next.inj (hu.symm.trans hu')
    obtain rfl := Host.Outcome.next.inj (hv.symm.trans hv')
    exact ⟨u, v, hu, hv, kr, digitsV.ioOut.trans (h.ioOut.trans digitsU.ioOut.symm),
      digitsV.ioValid.trans (h.ioValid.trans digitsU.ioValid.symm)⟩

theorem s0WriteExecute_shown_congr {s t : State} (h : SameShown s t) (ilOp : t.ilOp = s.ilOp)
    (early : isLate s.cfg.operandTable (decode s.ilOp) = false →
      (∀ j mi, decode s.ilOp ≠ arInstr j mi .io) ∧ (∀ x, decode s.ilOp ≠ .r5kr x) ∧ ∀ x, decode s.ilOp ≠ .xkrsr x) :
    ∃ u v, s0WriteExecute s = .next u ∧ s0WriteExecute t = .next v ∧ v.kr = u.kr ∧ v.ioOut = u.ioOut ∧
      v.ioValid = u.ioValid := by
  have entry : SameShown (s0WriteEnter s) (s0WriteEnter t) :=
    ⟨h.kr, h.ioOut, h.ioValid, h.bus, congrArg Bus.dstate h.bus, congrArg Bus.keyLine h.bus, h.cfg⟩
  cases late : isLate s.cfg.operandTable (decode s.ilOp) with
  | true =>
    exact ⟨_, _, s0WriteExecute_of_late late, s0WriteExecute_of_late (by rw [ilOp, h.cfg, late]), h.kr, h.ioOut,
      h.ioValid⟩
  | false =>
    obtain ⟨io, r5kr, xkrsr⟩ := early late
    obtain ⟨u, v, hu, hv, same⟩ := exec_shown_congr io r5kr xkrsr entry
    rw [← ilOp] at hv
    exact ⟨u, v, (s0WriteExecute_of_early late).trans hu,
      (s0WriteExecute_of_early (by rw [ilOp, h.cfg, late])).trans hv, same⟩

/-- S0 write puts KR and the IO latch on the bus, and nothing else of what the early run leaves. -/
theorem s0Write_bus_congr {s t : State} (h : SameShown s t) (ilOp : t.ilOp = s.ilOp)
    (early : isLate s.cfg.operandTable (decode s.ilOp) = false →
      (∀ j mi, decode s.ilOp ≠ arInstr j mi .io) ∧ (∀ x, decode s.ilOp ≠ .r5kr x) ∧ ∀ x, decode s.ilOp ≠ .xkrsr x) :
    ∃ u v, s0Write s = .next u ∧ s0Write t = .next v ∧ u.bus = v.bus := by
  obtain ⟨u, v, hu, hv, kr, ioOut, ioValid⟩ := s0WriteExecute_shown_congr h ilOp early
  have keptU := s0WriteExecute_keepsOutsideDecoder hu
  have keptV := s0WriteExecute_keepsOutsideDecoder hv
  have bus : v.bus = u.bus := keptV.bus.trans (h.bus.trans keptU.bus.symm)
  have word : v.ilOp = u.ilOp := keptV.ilOp.trans (ilOp.trans keptU.ilOp.symm)
  refine ⟨_, _, (onNext_eq_next ..).mpr ⟨u, hu, rfl⟩, (onNext_eq_next ..).mpr ⟨v, hv, rfl⟩, ?_⟩
  rw [publish_eq, publish_eq]
  dsimp only
  rw [kr, ioOut, ioValid, bus, word]

/-- Settles O32: the bus after an invocation is that of the phase's own statement, in which none of the hidden state
stands, but at S0 write. -/
theorem hiddenStateDoesNotShowOnTheBus : Obligations.HiddenStateDoesNotShowOnTheBus := by
  intro s a b c d e fA fB sr r5 jump busy early
  generalize ht : ({ s with
    regA := a, regB := b, regC := c, regD := d, regE := e, fA := fA, fB := fB, sr := sr, r5 := r5
    jump := jump, busy := busy } : State) = t
  have resetCnt : t.resetCnt = s.resetCnt := by rw [← ht]
  have bus : t.bus = s.bus := by rw [← ht]
  cases hw : s.bus.write with
  | false =>
    obtain ⟨u, hu, withinS⟩ := coreProcess_withinPhase s
    obtain ⟨v, hv, withinT⟩ := coreProcess_withinPhase t
    exact ⟨u, v, hu, hv,
      (withinS.phase.read hw).trans (bus.symm.trans (withinT.phase.read (bus ▸ hw)).symm)⟩
  | true =>
    obtain normal | boot := Nat.eq_zero_or_pos s.resetCnt
    case inr =>
      refine ⟨_, _, bootPhasesExecuteNothing s boot, bootPhasesExecuteNothing t (resetCnt ▸ boot), ?_⟩
      rw [← ht]
    have normalT : t.resetCnt = 0 := resetCnt.trans normal
    obtain ⟨s1Write, s2Write, -, s14Write⟩ := signallingPhases s normal
    obtain ⟨t1Write, t2Write, -, t14Write⟩ := signallingPhases t normalT
    rw [bus] at t1Write t2Write t14Write
    cases normalPhase_exhaustive s with
    | s0Write at0 =>
      have shown : SameShown (publishIdle s) (publishIdle t) := by
        rw [← ht, publishIdle_eq, publishIdle_eq]
        exact ⟨rfl, rfl, rfl, rfl, rfl, rfl, rfl⟩
      have ilOp : (publishIdle t).ilOp = (publishIdle s).ilOp := by rw [← ht, publishIdle_ilOp, publishIdle_ilOp]
      obtain ⟨u, v, hu, hv, same⟩ := s0Write_bus_congr shown ilOp
        (by rw [publishIdle_ilOp, publishIdle_cfg]; exact early normal at0)
      have at0' {w : State} (h : w.bus = s.bus) : (publishIdle w).AtS0Write := by
        rw [publishIdle_eq]
        exact h ▸ at0
      refine ⟨u, v, (coreProcess_normal s normal).trans ((normalPhase_s0Write (at0' rfl).1 (at0' rfl).2).trans hu),
        (coreProcess_normal t normalT).trans ((normalPhase_s0Write (at0' bus).1 (at0' bus).2).trans hv), same⟩
    | s1Write hs _ => exact ⟨_, _, s1Write hs hw, t1Write hs hw, by rw [← ht]⟩
    | s2Write hs _ => exact ⟨_, _, s2Write hs hw, t2Write hs hw, by rw [← ht]⟩
    | s14Write hs _ => exact ⟨_, _, s14Write hs hw, t14Write hs hw, by rw [← ht]⟩
    | s2Read _ hr => simp [hr] at hw
    | s15Read at15 => simp [at15.2] at hw
    | unnamed h =>
      exact ⟨_, _, otherPhasesChangeNothing s normal h.1 h.2,
        otherPhasesChangeNothing t normalT (bus ▸ h.1) (bus ▸ h.2), by rw [← ht]⟩

end Sys2Proof.Machine
end

section
/-!
SUPPORT. The invariant of a run (Safety.lean, State.Inv): it holds after reset, and every step keeps it. The core's part
of it is stated by the number n of phases of the digit-cycle that the core has been through, so that one statement serves
before the core's invocation and after it.
-/
namespace Sys2Proof.Machine

open Sys2Proof

/-- Settles O23: boot mode has begun, and every latch of the coordinator is clear. -/
theorem resetHasInvariant : Obligations.ResetHasInvariant := by
  intro c p env legal
  have boot : c.bootN ≠ 0 := Nat.one_le_iff_ne_zero.mp legal.1
  constructor
  case legal => exact legal
  all_goals simp [State.resetWith, boot]

/-- The n-th phase boundary lies between two words: before S0 write, or after S15 read. -/
abbrev BetweenWords (n : Nat) : Prop := n = 0 ∨ n = 32

/-- What State.Inv says of the core after n phases of a digit-cycle: n is the number of the phase before the core's
invocation in it, and one more after it. -/
structure CoreInv (n : Nat) (s : State) : Prop where
  legal : s.cfg.Legal
  condLatch : s.condL = true → s.resetCnt = 0 ∧ (n = 1 ∨ n = 2)
  lateMark : s.late = true ↔ s.resetCnt = 0 ∧ ¬ BetweenWords n ∧ isLate s.cfg.operandTable (decode s.ilOp) = true
  holdBy : s.hold = true → s.resetCnt = 0 ∧ (BetweenWords n ∨ waits (decode s.ilOp) = true)
  ioValidAt : s.ioValid = true → s.resetCnt = 0 ∧ BetweenWords n
  sinZero : (0 < s.resetCnt ∨ ¬ BetweenWords n) → s.sin = zeroDigits
  digitOf : s.resetCnt = 0 → ¬ BetweenWords n → s.digit = s.bus.dstate
  stopSeen : s.resetCnt = 0 → s.ilAddr = .stop → n = 32 ∧ s.stopReq = true

/-! Between State.Inv and the core's part of it -/

theorem phaseNo_le (b : Bus) : b.phaseNo ≤ 31 := by
  have hs := b.sstate.isLt
  have hw := (!b.write).toNat_le
  unfold Bus.phaseNo
  omega

theorem betweenWords_phaseNo (s : State) : BetweenWords s.bus.phaseNo ↔ s.AtS0Write := by
  have := phaseNo_le s.bus
  rw [← phaseNo_eq_zero_iff]
  omega

/-- COND stays latched between S0 write and S1 write. -/
theorem phaseNo_condLatch_iff (s : State) :
    (s.bus.phaseNo = 1 ∨ s.bus.phaseNo = 2) ↔
      (s.bus.sstate = 0 ∧ s.bus.write = false) ∨ (s.bus.sstate = 1 ∧ s.bus.write = true) := by
  rw [phaseNo_eq_odd_iff _ 0, phaseNo_eq_even_iff _ 1, and_comm, and_comm (a := s.bus.write = true)]
  exact or_congr (and_congr_left' (BitVec.toNat_inj (y := 0#4))) (and_congr_left' (BitVec.toNat_inj (y := 1#4)))

theorem State.Inv.coreInv {s : State} (h : s.Inv) (running : s.ended = false) : CoreInv s.bus.phaseNo s where
  legal := h.legal
  condLatch set := by
    rw [phaseNo_condLatch_iff]
    exact h.condLatch running set
  lateMark := by
    rw [betweenWords_phaseNo]
    exact h.lateMark running
  holdBy set := by
    rw [betweenWords_phaseNo]
    exact h.holdBy running set
  ioValidAt set := by
    rw [betweenWords_phaseNo]
    exact h.ioValidAt running set
  sinZero := by
    rw [betweenWords_phaseNo]
    exact h.sinZero running
  digitOf normal := by
    rw [betweenWords_phaseNo]
    exact h.digitOf running normal
  stopSeen normal stop := absurd stop (h.notStopped running normal)

/-- Where the run goes on, the core's part at the next phase and three facts about the bus and the sequencer make up the
whole invariant. -/
theorem CoreInv.inv {s : State} (h : CoreInv s.bus.phaseNo s) (running : s.ended = false)
    (zeroed : s.AtS0Write → s.bus.ext = 0 ∧ s.bus.irg = 0 ∧ s.bus.io = zeroDigits)
    (idle : s.bus.write = false → s.bus.sstate ≠ 0 → s.bus.idle = s.idle)
    (noStop : s.bus.write = true → s.stopReq = false) : s.Inv where
  legal := h.legal
  zeroedAtStart _ := zeroed
  condLatch _ set := by
    rw [← phaseNo_condLatch_iff]
    exact h.condLatch set
  lateMark _ := by
    rw [← betweenWords_phaseNo]
    exact h.lateMark
  holdBy _ set := by
    rw [← betweenWords_phaseNo]
    exact h.holdBy set
  ioValidAt _ set := by
    rw [← betweenWords_phaseNo]
    exact h.ioValidAt set
  sinZero _ := by
    rw [← betweenWords_phaseNo]
    exact h.sinZero
  idleShown _ := idle
  digitOf _ normal := by
    rw [← betweenWords_phaseNo]
    exact h.digitOf normal
  notStopped _ normal stop := by
    have past := (h.stopSeen normal stop).1
    have := phaseNo_le s.bus
    omega
  noStopPending _ := noStop
  endedBy ended := by simp [running] at ended

/-! A phase in which no word runs -/

/-- From s to t the latches that the invariant speaks of are kept, but for CONDL. -/
structure SameLatches (s t : State) : Prop where
  cfg : t.cfg = s.cfg
  resetCnt : t.resetCnt = s.resetCnt
  late : t.late = s.late
  ilOp : t.ilOp = s.ilOp
  ilAddr : t.ilAddr = s.ilAddr
  hold : t.hold = s.hold
  ioValid : t.ioValid = s.ioValid
  sin : t.sin = s.sin
  digit : t.digit = s.digit
  dstate : t.bus.dstate = s.bus.dstate

theorem CoreInv.of_sameLatches {n n' : Nat} {s t : State} (h : CoreInv n s) (same : SameLatches s t)
    (between : BetweenWords n' ↔ BetweenWords n)
    (condL : t.condL = true → s.condL = true ∧ ((n = 1 ∨ n = 2) → (n' = 1 ∨ n' = 2)))
    (stop : n = 32 → n' = 32 ∧ t.stopReq = s.stopReq) : CoreInv n' t where
  legal := same.cfg ▸ h.legal
  condLatch set := by
    obtain ⟨latched, later⟩ := condL set
    obtain ⟨normal, at_n⟩ := h.condLatch latched
    exact ⟨same.resetCnt.trans normal, later at_n⟩
  lateMark := by
    rw [same.late, same.resetCnt, same.cfg, same.ilOp, between]
    exact h.lateMark
  holdBy := by
    rw [same.hold, same.resetCnt, same.ilOp, between]
    exact h.holdBy
  ioValidAt := by
    rw [same.ioValid, same.resetCnt, between]
    exact h.ioValidAt
  sinZero := by
    rw [same.sin, same.resetCnt, between]
    exact h.sinZero
  digitOf := by
    rw [same.digit, same.resetCnt, same.dstate, between]
    exact h.digitOf
  stopSeen normal addr := by
    obtain ⟨at32, stopped⟩ := h.stopSeen (same.resetCnt ▸ normal) (same.ilAddr ▸ addr)
    obtain ⟨at32', kept⟩ := stop at32
    exact ⟨at32', kept.trans stopped⟩

/-- The chips around the core, and the publication of IDLE, are within a phase. -/
theorem CoreInv.within {n : Nat} {s t : State} (h : CoreInv n s) (same : SameLatches s t) (condL : t.condL = s.condL)
    (stop : n = 32 → t.stopReq = s.stopReq) : CoreInv n t :=
  h.of_sameLatches same Iff.rfl (fun set => ⟨condL ▸ set, id⟩) fun at32 => ⟨at32, stop at32⟩

theorem beforeCore_sameLatches (s : State) : SameLatches s (beforeCore s) := by
  constructor <;> simp [(beforeCore_samePhase s).dstate]

theorem publishIdle_sameLatches (s : State) : SameLatches s (publishIdle s) := by
  constructor <;> simp [(publishIdle_withinPhase s).phase.dstate]

theorem chipWrites_sameLatches (ws : List BusWrite) (s : State) : SameLatches s (chipWrites ws s) := by
  constructor <;> simp [(chipWrites_samePhase ws s).dstate]

/-- A phase between S0 write and S15 read keeps the latches; S1 write clears CONDL. -/
theorem CoreInv.inner {n : Nat} {s t : State} (h : CoreInv n s) (same : SameLatches s t) (first : n ≠ 0) (last : n < 31)
    (condL : t.condL = true → s.condL = true ∧ n ≠ 2) : CoreInv (n + 1) t :=
  h.of_sameLatches same (by omega) (fun set => ⟨(condL set).1, by have := (condL set).2; omega⟩) (by omega)

/-! Boot mode, in which no latch is set -/

theorem CoreInv.boot {n : Nat} {s : State} (h : CoreInv n s) (boot : 0 < s.resetCnt) :
    s.condL = false ∧ s.late = false ∧ s.hold = false ∧ s.ioValid = false ∧ s.sin = zeroDigits := by
  have notNormal : s.resetCnt ≠ 0 := Nat.ne_of_gt boot
  refine ⟨?_, ?_, ?_, ?_, h.sinZero (.inl boot)⟩ <;> rw [Bool.eq_false_iff] <;> intro set
  · exact notNormal (h.condLatch set).1
  · exact notNormal (h.lateMark.mp set).1
  · exact notNormal (h.holdBy set).1
  · exact notNormal (h.ioValidAt set).1

/-- The other direction, where normal mode is entered at S15 read only. -/
theorem coreInv_of_clear {n : Nat} {s : State} (legal : s.cfg.Legal) (condL : s.condL = false) (late : s.late = false)
    (hold : s.hold = false) (ioValid : s.ioValid = false) (sin : s.sin = zeroDigits) (normal : s.resetCnt = 0 → n = 32)
    (stop : s.resetCnt = 0 → s.ilAddr = .stop → s.stopReq = true) : CoreInv n s where
  legal := legal
  condLatch set := by simp [condL] at set
  lateMark := by
    rw [late]
    exact ⟨nofun, fun ⟨zero, inside, _⟩ => absurd (.inr (normal zero)) inside⟩
  holdBy set := by simp [hold] at set
  ioValidAt set := by simp [ioValid] at set
  sinZero _ := sin
  digitOf zero inside := absurd (.inr (normal zero)) inside
  stopSeen zero addr := ⟨normal zero, stop zero addr⟩

theorem coreProcess_boot_coreInv {s t : State} (h : CoreInv s.bus.phaseNo s) (boot : 0 < s.resetCnt)
    (core : coreProcess s = .next t) : CoreInv (s.bus.phaseNo + 1) t := by
  obtain ⟨condL, late, hold, ioValid, sin⟩ := h.boot boot
  obtain rfl := Host.Outcome.next.inj ((bootPhasesExecuteNothing s boot).symm.trans core)
  have entered : (if s.AtS15Read then s.resetCnt - 1 else s.resetCnt) = 0 → s.AtS15Read ∧ s.resetCnt = 1 := by
    split
    next at15 => exact fun zero => ⟨at15, by omega⟩
    next => exact fun zero => absurd zero (Nat.ne_of_gt boot)
  refine coreInv_of_clear h.legal condL late hold ioValid sin (fun zero => ?_) fun zero addr => ?_
  · rw [(phaseNo_eq_last_iff s).mpr (entered zero).1]
  · dsimp only at addr ⊢
    rw [if_pos (entered zero)] at addr
    rw [decide_eq_true ⟨(entered zero).1, (entered zero).2, addr⟩, Bool.or_true]

/-! Normal mode -/

/-- A phase between S0 write and S15 read: the core keeps its latches and IDLE, and S1 write clears CONDL. -/
theorem coreProcess_inner {s : State} (normal : s.resetCnt = 0) (first : s.bus.phaseNo ≠ 0)
    (last : s.bus.phaseNo ≠ 31) :
    ∃ t, coreProcess s = .next t ∧ SameLatches s t ∧ t.idle = s.idle ∧
      (t.condL = true → s.condL = true ∧ s.bus.phaseNo ≠ 2) := by
  obtain ⟨s1Write, s2Write, s2Read, s14Write⟩ := signallingPhases s normal
  have at2 : s.bus.phaseNo = 2 ↔ s.bus.write = true ∧ s.bus.sstate.toNat = 1 := phaseNo_eq_even_iff s.bus 1
  cases normalPhase_exhaustive s with
  | s0Write at0 => exact absurd ((phaseNo_eq_zero_iff s).mpr at0) first
  | s1Write hs hw => exact ⟨_, s1Write hs hw, ⟨rfl, rfl, rfl, rfl, rfl, rfl, rfl, rfl, rfl, rfl⟩, rfl, nofun⟩
  | s2Write hs hw =>
    exact ⟨_, s2Write hs hw, ⟨rfl, rfl, rfl, rfl, rfl, rfl, rfl, rfl, rfl, rfl⟩, rfl, fun set =>
      ⟨set, by simp [at2, hs]⟩⟩
  | s2Read hs hr =>
    obtain ⟨k, hk, -⟩ := s2Read hs hr
    exact ⟨_, hk, ⟨rfl, rfl, rfl, rfl, rfl, rfl, rfl, rfl, rfl, rfl⟩, rfl, fun set => ⟨set, by simp [at2, hs]⟩⟩
  | s14Write hs hw =>
    exact ⟨_, s14Write hs hw, ⟨rfl, rfl, rfl, rfl, rfl, rfl, rfl, rfl, rfl, rfl⟩, rfl, fun set =>
      ⟨set, by simp [at2, hs]⟩⟩
  | s15Read at15 => exact absurd ((phaseNo_eq_last_iff s).mpr at15) last
  | unnamed h =>
    refine ⟨_, otherPhasesChangeNothing s normal h.1 h.2, ⟨rfl, rfl, rfl, rfl, rfl, rfl, rfl, rfl, rfl, rfl⟩, rfl,
      fun set => ⟨set, fun phase => ?_⟩⟩
    obtain ⟨hw, hs⟩ := at2.mp phase
    exact h.1 hw (by simp [BitVec.eq_of_toNat_eq (y := 1#4) hs])

/-- The early run sets HOLD only for a word that can wait. -/
theorem s0WriteExecute_hold {s u : State} (hu : s0WriteExecute s = .next u) (hold : u.hold = true) :
    waits (decode s.ilOp) = true := by
  obtain ⟨-, late⟩ | ⟨-, early⟩ := s0WriteExecute_cases s
  · obtain rfl := Host.Outcome.next.inj (hu.symm.trans late)
    exact nomatch hold
  · obtain ⟨t, ht, hold_eq⟩ := exec_hold (decode s.ilOp) (s0WriteEnter s)
    obtain rfl := Host.Outcome.next.inj (hu.symm.trans (early.trans ht))
    rw [hold, s0WriteEnter_eq, Bool.false_or] at hold_eq
    exact waits_of_needsHold (of_decide_eq_true hold_eq.symm)

theorem s0Write_coreInv {s t : State} (h : CoreInv 0 s) (normal : s.resetCnt = 0) (hs : s0Write s = .next t) :
    CoreInv 1 t := by
  obtain ⟨u, hu, hs0⟩ := exists_s0Write s
  obtain rfl := Host.Outcome.next.inj (hs0.symm.trans hs)
  have waiting := s0WriteExecute_hold hu
  have kept := s0WriteExecute_keepsOutsideDecoder hu
  rw [s0WriteEnter_eq] at kept
  have resetCnt : u.resetCnt = 0 := kept.resetCnt.trans normal
  have inside : ¬ BetweenWords 1 := by decide
  rw [publish_eq]
  exact {
    legal := kept.cfg ▸ h.legal
    condLatch := fun _ => ⟨resetCnt, .inl rfl⟩
    lateMark := by
      dsimp only
      rw [kept.late, kept.cfg, kept.ilOp]
      exact ⟨fun late => ⟨resetCnt, inside, late⟩, fun ⟨_, _, late⟩ => late⟩
    holdBy := fun hold => ⟨resetCnt, .inr (by
      dsimp only
      rw [kept.ilOp]
      exact waiting hold)⟩
    ioValidAt := nofun
    sinZero := fun _ => kept.sin
    digitOf := fun _ _ => by
      dsimp only
      rw [kept.digit, kept.bus]
    stopSeen := fun _ stop => absurd (h.stopSeen normal (kept.ilAddr ▸ stop)).1 (by decide) }

/-- After S15 read no late word is left, and a STOP in the fetch is a non-zero return. -/
theorem fetchLatch_coreInv {s : State} (legal : s.cfg.Legal) (normal : s.resetCnt = 0) (condL : s.condL = false)
    (late : s.late = false) : CoreInv 32 (fetchLatch s) where
  legal := legal
  condLatch set := Bool.noConfusion (condL.symm.trans set)
  lateMark := ⟨fun set => Bool.noConfusion (late.symm.trans set), fun ⟨_, inside, _⟩ => absurd (.inr rfl) inside⟩
  holdBy _ := ⟨normal, .inl (.inr rfl)⟩
  ioValidAt _ := ⟨normal, .inr rfl⟩
  sinZero outside := by
    obtain boot | inside := outside
    · exact absurd normal (Nat.ne_of_gt boot)
    · exact absurd (.inr rfl) inside
  digitOf _ inside := absurd (.inr rfl) inside
  stopSeen _ stop := ⟨rfl, by
    change s.bus.fetchAddr = .stop at stop
    change (s.stopReq || decide (s.bus.fetchAddr = .stop)) = true
    rw [decide_eq_true stop, Bool.or_true]⟩

theorem s15Read_coreInv {s t : State} (h : CoreInv 31 s) (normal : s.resetCnt = 0) (hs : s15Read s = .next t) :
    CoreInv 32 t := by
  have condL : s.condL = false := Bool.eq_false_iff.mpr fun set => absurd (h.condLatch set).2 (by decide)
  obtain ⟨late, early⟩ | ⟨-, u, hu, late⟩ := s15Read_cases s
  · obtain rfl := Host.Outcome.next.inj (early.symm.trans hs)
    exact fetchLatch_coreInv h.legal normal condL late
  · obtain rfl := Host.Outcome.next.inj (late.symm.trans hs)
    obtain ⟨u', hu', kept⟩ := exec_keepsOutsideDecoder (decode s.ilOp) { s with sin := s.bus.io }
    obtain rfl := Host.Outcome.next.inj (hu.symm.trans hu')
    exact fetchLatch_coreInv (kept.cfg ▸ h.legal) (kept.resetCnt.trans normal) (kept.condL.trans condL) rfl

theorem coreProcess_coreInv {s t : State} (h : CoreInv s.bus.phaseNo s) (core : coreProcess s = .next t) :
    CoreInv (s.bus.phaseNo + 1) t := by
  obtain normal | boot := Nat.eq_zero_or_pos s.resetCnt
  case inr => exact coreProcess_boot_coreInv h boot core
  have phase := (publishIdle_withinPhase s).phase
  have entry : CoreInv s.bus.phaseNo (publishIdle s) :=
    h.within (publishIdle_sameLatches s) (publishIdle_condL s) fun _ => publishIdle_stopReq s
  have normal' : (publishIdle s).resetCnt = 0 := (publishIdle_resetCnt s).trans normal
  by_cases first : s.bus.phaseNo = 0
  · obtain ⟨hs, hw⟩ := (phaseNo_eq_zero_iff s).mp first
    rw [coreProcess_normal s normal, normalPhase_s0Write (phase.sstate.trans hs) (phase.write.trans hw)] at core
    rw [first] at entry ⊢
    exact s0Write_coreInv entry normal' core
  by_cases last : s.bus.phaseNo = 31
  · obtain ⟨hs, hr⟩ := (phaseNo_eq_last_iff s).mp last
    rw [coreProcess_normal s normal, normalPhase_s15Read (phase.sstate.trans hs) (phase.write.trans hr)] at core
    rw [last] at entry ⊢
    exact s15Read_coreInv entry normal' core
  have := phaseNo_le s.bus
  obtain ⟨u, hu, same, -, condL⟩ := coreProcess_inner normal first last
  obtain rfl := Host.Outcome.next.inj (core.symm.trans hu)
  exact h.inner same first (by omega) condL

/-- After S0 the bus carries the IDLE that the core leaves. -/
theorem coreProcess_idleShown {s t : State} (core : coreProcess s = .next t) (hw : s.bus.write = true)
    (first : s.bus.sstate ≠ 0) : t.bus.idle = t.idle := by
  obtain ⟨t', ht', named⟩ := coreProcess_writesAsNamed s hw
  obtain rfl := Host.Outcome.next.inj (core.symm.trans ht')
  rw [named.idle]
  obtain normal | boot := Nat.eq_zero_or_pos s.resetCnt
  · have not0 : s.bus.phaseNo ≠ 0 := fun phase => first ((phaseNo_eq_zero_iff s).mp phase).1
    have not31 : s.bus.phaseNo ≠ 31 := fun phase => by simp [((phaseNo_eq_last_iff s).mp phase).2] at hw
    obtain ⟨u, hu, -, idle, -⟩ := coreProcess_inner normal not0 not31
    obtain rfl := Host.Outcome.next.inj (core.symm.trans hu)
    exact idle.symm
  · obtain rfl := Host.Outcome.next.inj ((bootPhasesExecuteNothing s boot).symm.trans core)
    rfl

/-! The sequencer's move -/

theorem advance_sameLatches {s : State} (inDigitCycle : s.bus.phaseNo ≠ 31) : SameLatches s (advance s) := by
  obtain ⟨-, h⟩ | ⟨-, -, h⟩ | ⟨-, -, -, h⟩ | ⟨hr, -, h15, -⟩ := advance_cases s
  case inr.inr.inr => exact absurd ((phaseNo_eq_last_iff s).mpr ⟨h15, hr⟩) inDigitCycle
  all_goals
    rw [h]
    exact ⟨rfl, rfl, rfl, rfl, rfl, rfl, rfl, rfl, rfl, rfl⟩

/-- After a write phase the run goes on whatever the chips return, to a read phase. -/
theorem advance_inv_of_write {s : State} (h : CoreInv (s.bus.phaseNo + 1) s) (running : s.ended = false)
    (hw : s.bus.write = true) (idle : s.bus.sstate ≠ 0 → s.bus.idle = s.idle) : (advance s).Inv := by
  have inner : s.bus.phaseNo ≠ 31 := fun last => by simp [((phaseNo_eq_last_iff s).mp last).2] at hw
  have move : advance s = { s with bus := { s.bus with write := false } } := by simp [advance, hw]
  have phase : (advance s).bus.phaseNo = s.bus.phaseNo + 1 := by simp [move, Bus.phaseNo, hw]
  have next : CoreInv (advance s).bus.phaseNo (advance s) := by
    rw [phase]
    exact h.within (advance_sameLatches inner) (advance_condL s) fun _ => advance_stopReq s
  have read : (advance s).bus.write = false := by rw [move]
  refine next.inv (by rw [move]; exact running) (fun at0 => ?_) (fun _ => ?_) fun write => ?_
  · exact Bool.noConfusion (read.symm.trans at0.2)
  · rw [move]
    exact idle
  · exact Bool.noConfusion (read.symm.trans write)

/-- After a read phase before the last, with no stop, the next serial-state opens. -/
theorem advance_inv_of_read {s : State} (h : CoreInv (s.bus.phaseNo + 1) s) (running : s.ended = false)
    (hlt : s.bus.phaseNo < 31) (hr : s.bus.write = false) (noStop : s.stopReq = false) : (advance s).Inv := by
  obtain ⟨phase, -, ended⟩ := advance_of_phaseNo_lt hlt noStop
  have next : CoreInv (advance s).bus.phaseNo (advance s) := by
    rw [phase]
    exact h.within (advance_sameLatches hlt.ne) (advance_condL s) fun _ => advance_stopReq s
  have write : (advance s).bus.write = true := by
    rw [advance, if_neg (Bool.eq_false_iff.mp hr), if_neg (Bool.eq_false_iff.mp noStop)]
    split <;> rfl
  refine next.inv (ended.trans running) (fun at0 => ?_) (fun read => ?_) fun _ => (advance_stopReq s).trans noStop
  · have := (phaseNo_eq_zero_iff (advance s)).mpr at0
    omega
  · exact Bool.noConfusion (read.symm.trans write)

/-- The next digit-cycle opens with EXT, IRG and IO zeroed. -/
theorem advance_inv_of_last {s : State} (h : CoreInv 32 s) (running : s.ended = false) (at15 : s.AtS15Read)
    (noStop : s.stopReq = false) : (advance s).Inv := by
  have stays : s.resetCnt = 0 → s.ilAddr ≠ .stop := fun normal stop =>
    Bool.noConfusion (noStop.symm.trans (h.stopSeen normal stop).2)
  obtain ⟨hw, -⟩ | ⟨-, stop, -⟩ | ⟨-, -, h15, -⟩ | ⟨-, -, -, hadv⟩ := advance_cases s
  · simp [at15.2] at hw
  · simp [noStop] at stop
  · exact absurd at15.1 h15
  rw [hadv]
  refine CoreInv.inv ?_ running (fun _ => ⟨rfl, rfl, rfl⟩) nofun fun _ => noStop
  change CoreInv 0 _
  exact {
    legal := h.legal
    condLatch := fun set => absurd (h.condLatch set).2 (by decide)
    lateMark := ⟨fun late => absurd (.inr rfl) (h.lateMark.mp late).2.1, fun ⟨_, inside, _⟩ => absurd (.inl rfl) inside⟩
    holdBy := fun hold => ⟨(h.holdBy hold).1, .inl (.inl rfl)⟩
    ioValidAt := fun valid => ⟨(h.ioValidAt valid).1, .inl rfl⟩
    sinZero := fun outside => h.sinZero (outside.imp_right fun inside => absurd (.inl rfl) inside)
    digitOf := fun _ inside => absurd (.inl rfl) inside
    stopSeen := fun normal stop => absurd stop (stays normal) }

/-- An ended run claims only what R80 says of it. -/
theorem inv_of_ended {s : State} (legal : s.cfg.Legal) (ended : s.ended = true) (hr : s.bus.write = false)
    (stop : s.stopReq = true) : s.Inv where
  legal := legal
  endedBy _ := ⟨hr, stop⟩
  zeroedAtStart := by simp [ended]
  condLatch := by simp [ended]
  lateMark := by simp [ended]
  holdBy := by simp [ended]
  ioValidAt := by simp [ended]
  sinZero := by simp [ended]
  idleShown := by simp [ended]
  digitOf := by simp [ended]
  notStopped := by simp [ended]
  noStopPending := by simp [ended]

theorem advance_inv {s : State} (h : CoreInv (s.bus.phaseNo + 1) s) (running : s.ended = false)
    (idle : s.bus.write = true → s.bus.sstate ≠ 0 → s.bus.idle = s.idle) : (advance s).Inv := by
  cases hw : s.bus.write with
  | true => exact advance_inv_of_write h running hw (idle hw)
  | false =>
    obtain stop | going := Bool.eq_false_or_eq_true s.stopReq
    · have move : advance s = { s with ended := true } := by simp [advance, hw, stop]
      rw [move]
      exact inv_of_ended h.legal rfl hw stop
    · obtain last | inner := eq_or_ne s.bus.phaseNo 31
      · exact advance_inv_of_last (by rwa [last] at h) running ((phaseNo_eq_last_iff s).mp last) going
      · have := phaseNo_le s.bus
        exact advance_inv_of_read h running (by omega) hw going

/-- Settles O24: the core takes its part of the invariant from one phase to the next, the chips around it keep it, and
the sequencer's move makes the whole of it again. -/
theorem stepKeepsInvariant : Obligations.StepKeepsInvariant := by
  intro s t h hstep
  obtain ended | running := Bool.eq_false_or_eq_true s.ended
  · simp [step, runPhase, ended] at hstep
  obtain ⟨u, core, within⟩ := coreProcess_withinPhase (beforeCore s)
  obtain rfl := Host.Outcome.next.inj ((step_eq_of_coreProcess running core).symm.trans hstep)
  have before : CoreInv (beforeCore s).bus.phaseNo (beforeCore s) := by
    rw [(beforeCore_samePhase s).phaseNo]
    refine (h.coreInv running).within (beforeCore_sameLatches s) (beforeCore_condL s) fun past => ?_
    have := phaseNo_le s.bus
    omega
  have after := chipWrites_samePhase s.writesAfter u
  have left : CoreInv ((chipWrites s.writesAfter u).bus.phaseNo + 1) (chipWrites s.writesAfter u) := by
    rw [after.phaseNo, within.phase.phaseNo]
    exact (coreProcess_coreInv before core).within (chipWrites_sameLatches _ u) (chipWrites_condL _ u)
      fun _ => chipWrites_stopReq _ u
  refine advance_inv left ?_ fun hw first => ?_
  · rw [chipWrites_ended, within.ended, beforeCore_ended, running]
  · rw [after.write, within.phase.write] at hw
    rw [after.sstate, within.phase.sstate] at first
    rw [chipWrites_idle, ← coreProcess_idleShown core hw first]
    obtain ⟨b, hb, -⟩ := chipWrites_spec s.writesAfter u
    rw [hb]
    rfl

end Sys2Proof.Machine
end

section
/-!
SUPPORT. A digit-cycle of boot (48_coordinator.md R341, R342): what one step of boot mode does to the core, and the 32
phases in a row.
-/
namespace Sys2Proof.Machine

open Sys2Proof

/-- From s to t nothing changes but what boot mode, the other chips, the environment and the sequencer can change. -/
def KeptInBoot (s t : State) : Prop :=
  { t with
    bus := s.bus, stopReq := s.stopReq, ended := s.ended, env := s.env, resetCnt := s.resetCnt
    ilOp := s.ilOp, ilAddr := s.ilAddr, busy := s.busy } = s

theorem KeptInBoot.refl (s : State) : KeptInBoot s s := rfl

theorem KeptInBoot.trans {s t u : State} (h : KeptInBoot s t) (k : KeptInBoot t u) : KeptInBoot s u := by
  unfold KeptInBoot at h k ⊢
  rw [← k] at h
  exact h

theorem KeptInBoot.cfg {s t : State} (h : KeptInBoot s t) : t.cfg = s.cfg := by
  have same := congrArg State.cfg h
  exact same

/-- One step of boot mode, the sequencer's part left out. -/
structure BootStep (s t : State) : Prop where
  kept : KeptInBoot s t
  env : t.env = s.env.tail
  busy : t.busy = (s.busy || s.frame.setBusy)
  resetCnt : t.resetCnt = if s.AtS15Read then s.resetCnt - 1 else s.resetCnt
  ilOp : t.ilOp = if s.AtS15Read ∧ s.resetCnt = 1 then s.bus.irg else s.ilOp
  ilAddr : t.ilAddr = if s.AtS15Read ∧ s.resetCnt = 1 then s.bus.fetchAddr else s.ilAddr

theorem SamePhase.atS15Read {s t : State} (h : SamePhase s.bus t.bus) : t.AtS15Read ↔ s.AtS15Read := by
  rw [State.AtS15Read, State.AtS15Read, h.sstate, h.write]

theorem afterCore_keptInBoot (ws : List BusWrite) (u : State) : KeptInBoot u (advance (chipWrites ws u)) := by
  obtain ⟨b, hb, -⟩ := chipWrites_spec ws u
  have chips : KeptInBoot u (chipWrites ws u) := by rw [hb]; rfl
  have sequencer : KeptInBoot (chipWrites ws u) (advance (chipWrites ws u)) := by
    obtain ⟨-, h⟩ | ⟨-, -, h⟩ | ⟨-, -, -, h⟩ | ⟨-, -, -, h⟩ := advance_cases (chipWrites ws u) <;> rw [h] <;> rfl
  exact chips.trans sequencer

theorem beforeCore_keptInBoot (s : State) : KeptInBoot s (beforeCore s) := by
  obtain ⟨b, hb, -⟩ := beforeCore_spec s
  rw [hb]
  rfl

theorem coreProcess_boot_keptInBoot {s t : State} (boot : 0 < s.resetCnt) (h : coreProcess s = .next t) :
    KeptInBoot s t := by
  obtain rfl := Host.Outcome.next.inj ((bootPhasesExecuteNothing s boot).symm.trans h)
  rfl

theorem step_boot {s t : State} (running : s.ended = false) (boot : 0 < s.resetCnt) (hstep : step s = .next t) :
    BootStep s t := by
  have phase := beforeCore_samePhase s
  have boot' : 0 < (beforeCore s).resetCnt := by rwa [beforeCore_resetCnt]
  have core := bootPhasesExecuteNothing (beforeCore s) boot'
  obtain rfl := Host.Outcome.next.inj ((step_eq_of_coreProcess running core).symm.trans hstep)
  have fetched (h : s.AtS15Read ∧ s.resetCnt = 1) : (beforeCore s).bus = s.bus := phase.read h.1.2
  constructor
  case kept => exact ((beforeCore_keptInBoot s).trans (coreProcess_boot_keptInBoot boot' core)).trans (afterCore_keptInBoot ..)
  case env => simp [beforeCore_env]
  case busy => simp [beforeCore_busy]
  case resetCnt =>
    rw [advance_resetCnt, chipWrites_resetCnt, beforeCore_resetCnt]
    simp only [phase.atS15Read]
  case ilOp =>
    rw [advance_ilOp, chipWrites_ilOp, beforeCore_resetCnt, beforeCore_ilOp]
    simp only [phase.atS15Read]
    split
    next h => rw [fetched h]
    next => rfl
  case ilAddr =>
    rw [advance_ilAddr, chipWrites_ilAddr, beforeCore_resetCnt, beforeCore_ilAddr]
    simp only [phase.atS15Read]
    split
    next h => rw [fetched h]
    next => rfl

/-! The phases of a boot digit-cycle in a row -/

/-- The state t stands n phases after the S0 write of the boot digit-cycle that begins in s. -/
structure BootCycle (s : State) (n : Nat) (t : State) : Prop where
  kept : KeptInBoot s t
  running : t.ended = false
  phaseNo : t.bus.phaseNo = n
  dstate : t.bus.dstate = s.bus.dstate
  resetCnt : t.resetCnt = s.resetCnt
  ilOp : t.ilOp = s.ilOp
  ilAddr : t.ilAddr = s.ilAddr
  going : t.bus.write = false → t.stopReq = false
  noOtherStops : t.NoOtherStops (32 - n)
  env : t.env = s.env.drop n
  busy : t.busy = (s.busy || (s.env.take n).any fun f => f.setBusy)

/-- The schedule's next frame among its first n + 1. -/
theorem any_take_succ (env : List Frame) (n : Nat) :
    ((env.take (n + 1)).any fun f => f.setBusy) =
      (((env.take n).any fun f => f.setBusy) || ((env.drop n).headD Frame.quiet).setBusy) := by
  rw [List.take_add_one, List.any_append, List.headD_eq_head?_getD, List.head?_drop]
  cases env[n]? with
  | none => rfl
  | some f => exact congrArg _ (Bool.or_false _)

theorem BootCycle.busy_succ {s t u : State} {n : Nat} (h : BootCycle s n t) (hb : BootStep t u) :
    u.busy = (s.busy || (s.env.take (n + 1)).any fun f => f.setBusy) := by
  rw [hb.busy, h.busy, State.frame, h.env, any_take_succ, Bool.or_assoc]

theorem BootCycle.env_succ {s t u : State} {n : Nat} (h : BootCycle s n t) (hb : BootStep t u) :
    u.env = s.env.drop (n + 1) := by
  rw [hb.env, h.env, List.tail_drop]

theorem BootCycle.start {s : State} (running : s.ended = false) (at0 : s.AtS0Write) (noStops : s.NoOtherStops 32) :
    BootCycle s 0 s where
  kept := .refl s
  running := running
  phaseNo := (phaseNo_eq_zero_iff s).mpr at0
  dstate := rfl
  resetCnt := rfl
  ilOp := rfl
  ilAddr := rfl
  going hr := Bool.noConfusion (at0.2.symm.trans hr)
  noOtherStops := noStops
  env := rfl
  busy := (Bool.or_false _).symm

/-- One phase before S15 read. -/
theorem BootCycle.step {s t : State} {n : Nat} (h : BootCycle s n t) (boot : 0 < s.resetCnt) (hn : n < 31) :
    ∃ u, step t = .next u ∧ BootCycle s (n + 1) u := by
  have left : 32 - n = 32 - (n + 1) + 1 := by omega
  obtain ⟨noStop, stopsLater⟩ := noOtherStops_succ (left ▸ h.noOtherStops)
  obtain ⟨v, hstep, same, running, stop⟩ := step_eq_advance t h.running
  have phase : v.bus.phaseNo = n := same.phaseNo.trans h.phaseNo
  have not15 : ¬ t.AtS15Read := fun at15 => by
    have := (phaseNo_eq_last_iff t).mpr at15
    have := h.phaseNo
    omega
  have going : v.stopReq = false := by
    rw [stop, noStop, decide_eq_false fun stops => not15 stops.1]
    cases hw : t.bus.write with
    | true => rfl
    | false => rw [h.going hw]; rfl
  obtain ⟨next, -, ended⟩ := advance_of_phaseNo_lt (phase ▸ hn) going
  have hb := step_boot h.running (h.resetCnt ▸ boot) hstep
  refine ⟨_, hstep, ?_⟩
  exact {
    kept := h.kept.trans hb.kept
    running := ended.trans running
    phaseNo := by rw [next, phase]
    dstate := (advance_sameLatches (by omega)).dstate.trans (same.dstate.trans h.dstate)
    resetCnt := by rw [hb.resetCnt, if_neg not15, h.resetCnt]
    ilOp := by rw [hb.ilOp, if_neg fun last => not15 last.1, h.ilOp]
    ilAddr := by rw [hb.ilAddr, if_neg fun last => not15 last.1, h.ilAddr]
    going := fun _ => (advance_stopReq v).trans going
    noOtherStops := stopsLater _ hb.kept.cfg hb.env
    env := h.env_succ hb
    busy := h.busy_succ hb }

theorem run_bootCycle {s : State} (boot : 0 < s.resetCnt) (start : BootCycle s 0 s) {n : Nat} (hn : n ≤ 31) :
    ∃ t, Sys2Proof.core.run n s = .next t ∧ BootCycle s n t := by
  induction n with
  | zero => exact ⟨s, rfl, start⟩
  | succ n ih =>
    obtain ⟨t, hrun, during⟩ := ih (by omega)
    obtain ⟨u, hstep, next⟩ := during.step boot hn
    exact ⟨u, (run_succ_of_next hrun).trans hstep, next⟩

/-- Settles O25: 31 phases that count nothing, and S15 read. -/
theorem bootDigitCycle : Obligations.BootDigitCycle := by
  intro s boot running at0 noStops
  obtain ⟨r, hrun, during⟩ := run_bootCycle boot (.start running at0 noStops) le_rfl
  have at15 : r.AtS15Read := (phaseNo_eq_last_iff r).mp during.phaseNo
  obtain ⟨noStop, -⟩ := noOtherStops_succ (n := 0) during.noOtherStops
  obtain ⟨t, hstep, ended, -⟩ := runEndsOnlyByAStop r during.running
  obtain ⟨t', hstep', -, -, zeroed⟩ := phaseOrderAndZeroing.1 r during.running
  obtain rfl := Host.Outcome.next.inj (hstep.symm.trans hstep')
  have hb := step_boot during.running (during.resetCnt ▸ boot) hstep
  have last : r.AtS15Read ∧ r.resetCnt = 1 ↔ s.resetCnt = 1 := by rw [during.resetCnt, and_iff_right at15]
  refine ⟨r, t, hrun, (run_succ_of_next hrun).trans hstep, at15, ?_, during.kept.trans hb.kept, during.busy_succ hb,
    during.env_succ hb, ?_, ?_, ?_, fun going => ?_⟩
  · rw [hb.resetCnt, if_pos at15, during.resetCnt]
  · rw [hb.ilOp, during.ilOp]
    simp only [last]
  · rw [hb.ilAddr, during.ilAddr]
    simp only [last]
  · have one : s.resetCnt ≤ 1 ↔ s.resetCnt = 1 := by omega
    rw [ended, during.going at15.2, noStop, during.resetCnt, one]
    simp [at15.1, at15.2]
  · rw [State.AtS0Write, zeroed at15.2 going at15.1, during.dstate]
    exact ⟨⟨rfl, rfl⟩, rfl⟩

end Sys2Proof.Machine
end

section
/-!
SUPPORT. The core on another bus, with the other chips attached elsewhere: what it makes of its own state is the same, and
what it writes on the bus is the same list of writes (20_memory.md R71, R88).
-/
namespace Sys2Proof.Machine

open Sys2Proof

/-- The state with the bus b, and with other chips attached before and after the core. -/
def State.onBus (b : Bus) (before after : List Nat) (s : State) : State :=
  { s with bus := b, cfg := { s.cfg with attachedBefore := before, attachedAfter := after } }

section
variable (b : Bus) (before after : List Nat)

/-! The decoder reads of the bus EXT only, and of the configuration the tables and KEY_INVERT -/

theorem entered_onBus (s : State) : entered (s.onBus b before after) = (entered s).onBus b before after := rfl

theorem rearm_onBus (s : State) : rearm (s.onBus b before after) = (rearm s).onBus b before after := by
  rw [rearm_eq_entered, rearm_eq_entered, entered_onBus]

theorem clearCondIf_onBus (c : Bool) (s : State) :
    clearCondIf c (s.onBus b before after) = (clearCondIf c s).onBus b before after := by
  cases c <;> rfl

theorem reg_onBus (r : Reg) (s : State) : (s.onBus b before after).reg r = s.reg r := by
  cases r <;> rfl

theorem setReg_onBus (r : Reg) (v : Digits) (s : State) :
    (s.onBus b before after).setReg r v = (s.setReg r v).onBus b before after := by
  cases r <;> rfl

theorem source_onBus (m : MaskDesc) (src : Source) (s : State) :
    (s.onBus b before after).source m src = s.source m src := by
  cases src with
  | none => rfl
  | reg r => exact reg_onBus b before after r s
  | r5 => rfl

theorem targetValue_onBus (t : Target) (s : State) : (s.onBus b before after).targetValue t = s.targetValue t := by
  cases t with
  | none => rfl
  | reg r => exact reg_onBus b before after r s
  | ioOut => rfl

theorem setTarget_onBus (t : Target) (v : Digits) (s : State) :
    (s.onBus b before after).setTarget t v = (s.setTarget t v).onBus b before after := by
  cases t with
  | none => rfl
  | reg r => exact setReg_onBus b before after r v s
  | ioOut => rfl

theorem secondOperand_onBus (m : MaskDesc) (Y : Digits) (s : State) :
    (s.onBus b before after).secondOperand m Y = s.secondOperand m Y := rfl

theorem alu_onBus (k : Kind) (X Y : Digits) (t : Target) (m : MaskDesc) (s : State) :
    alu k X Y t m (s.onBus b before after) = (alu k X Y t m s).onBus b before after := by
  unfold alu
  rw [targetValue_onBus, secondOperand_onBus]
  split
  · rfl
  · dsimp only
    rw [setTarget_onBus]
    rfl

theorem exchange_onBus (p q : Reg) (m : MaskDesc) (s : State) :
    exchange p q m (s.onBus b before after) = (exchange p q m s).onBus b before after := by
  simp only [exchange, reg_onBus, setReg_onBus]

theorem arithOn_onBus (k : Kind) (X Y : Digits) (m : MaskDesc) (dst : Dest) (s : State) :
    arithOn k X Y m dst (s.onBus b before after) = (arithOn k X Y m dst s).onBus b before after := by
  cases hx : exchangedBy dst with
  | some pq =>
    rw [arithOn_exchange k X Y m dst pq.1 pq.2 _ hx, arithOn_exchange k X Y m dst pq.1 pq.2 _ hx, alu_onBus,
      exchange_onBus]
  | none =>
    by_cases io : dst = .io
    · rw [io, arithOn_io, arithOn_io]
      exact congrArg (fun t : State => { t with ioValid := true }) 
        (alu_onBus b before after k X Y .ioOut m { s with ioOut := zeroDigits })
    · obtain ⟨q, hq⟩ : ∃ q, targetOf dst = .reg q := by cases dst <;> simp_all [exchangedBy, targetOf]
      rw [arithOn_reg k X Y m dst q _ hq, arithOn_reg k X Y m dst q _ hq, alu_onBus]

theorem arithEntry_onBus (j : Fin 32) (mi : BitVec 4) (dst : Dest) (s : State) :
    arithEntry j mi dst (s.onBus b before after) = (arithEntry j mi dst s).onBus b before after := by
  have mask : (s.onBus b before after).mask mi = s.mask mi := rfl
  have table : (s.onBus b before after).cfg.operandTable = s.cfg.operandTable := rfl
  unfold arithEntry
  rw [arith_eq, arith_eq, ← arithOn_onBus]
  simp only [mask, table, source_onBus, reg_onBus]

theorem fullScan_onBus (mask : KeyRow) (s : State) :
    (fullScan mask (s.onBus b before after)).1 = (fullScan mask s).1.onBus b before after := by
  have hit : (s.onBus b before after).keyHit mask = s.keyHit mask := rfl
  have digit : (s.onBus b before after).digit = s.digit := rfl
  unfold fullScan
  rw [hit, digit]
  split_ifs <;> rfl

theorem waitDigit_onBus (d : BitVec 4) (s : State) :
    (waitDigit d (s.onBus b before after)).1 = (waitDigit d s).1.onBus b before after := by
  have digit : (s.onBus b before after).digit = s.digit := rfl
  unfold waitDigit
  rw [digit]
  split_ifs <;> rfl

/-- Of the instructions only EXTKR reads the bus, and of it EXT. -/
theorem exec_onBus (i : Instr) {s : State} (ext : b.ext = s.bus.ext) :
    exec i (s.onBus b before after) = onNext (exec i s) (State.onBus b before after) := by
  have entry := rearm_onBus b before after s
  by_cases har : instrClass i = .arith
  · obtain ⟨j, mi, dst, rfl⟩ := exists_arInstr har
    rw [exec_arInstr, exec_arInstr, onNext_next, entered_onBus, arithEntry_onBus]
  cases i with
  | br => rfl
  | kscan =>
    simp only [exec, execKscan, entry, fullScan_onBus]
    rfl
  | waitd =>
    simp only [exec, execWaitd, entry, waitDigit_onBus]
    rfl
  | tfa | tfb | tkr | ktest =>
    simp only [exec, execTfa, execTfb, execTkr, execKtest, entry]
    exact congrArg Host.Outcome.next (clearCondIf_onBus ..)
  | sfa | zfa | ifa | xfab | skr | cfab | r5fa | sfb | zfb | ifb | zkr | cfba | r5fb | clridle | clrfa | inckr | far5
  | fbr5 | ldr5 | krr5 | r5kr | setidle | clrfb | xkrsr | frsv | waitbusy | wrsv14 | wrsv15 =>
    simp only [exec, execSfa, execZfa, execIfa, execXfab, execSkr, execCfab, execR5fa, execSfb, execZfb, execIfb, execZkr,
      execCfba, execR5fb, execClridle, execClrfa, execInckr, execFar5, execFbr5, execLdr5, execKrr5, execR5kr,
      execSetidle, execClrfb, execXkrsr, execFrsv, execWaitbusy, execWrsv14, execWrsv15, entry]
    rfl
  | tbusy =>
    have busy : ((rearm s).onBus b before after).busy = (rearm s).busy := rfl
    have keys : ((rearm s).onBus b before after).keys = (rearm s).keys := rfl
    simp only [exec, execTbusy, entry, busy, keys]
    refine congrArg Host.Outcome.next ?_
    split_ifs <;> rfl
  | extkr =>
    have read : ((rearm s).onBus b before after).bus.ext = (rearm s).bus.ext := by rw [rearm_bus]; exact ext
    simp only [exec, execExtkr, entry, read]
    rfl
  | _ => exact absurd rfl har

/-- S0 write looks at EXT, the key line and the number of the digit-cycle. -/
theorem s0WriteExecute_onBus {s : State} (ext : b.ext = s.bus.ext) (keyLine : b.keyLine = s.bus.keyLine)
    (dstate : b.dstate = s.bus.dstate) :
    s0WriteExecute (s.onBus b before after) = onNext (s0WriteExecute s) (State.onBus b before after) := by
  have enter : s0WriteEnter (s.onBus b before after) = (s0WriteEnter s).onBus b before after := by
    rw [s0WriteEnter_eq, s0WriteEnter_eq]
    simp only [State.onBus, ext, keyLine, dstate]
  have word : isLate (s.onBus b before after).cfg.operandTable (decode (s.onBus b before after).ilOp) =
      isLate s.cfg.operandTable (decode s.ilOp) := rfl
  obtain ⟨late, hs⟩ | ⟨early, hs⟩ := s0WriteExecute_cases s
  · rw [s0WriteExecute_of_late (word.trans late), hs, enter, onNext_next]
  · rw [s0WriteExecute_of_early (word.trans early), hs, enter]
    exact exec_onBus b before after (decode s.ilOp) ext

end

/-! The core's invocation -/

theorem s15Read_reattached (s : State) (before after : List Nat) :
    ∃ u, s15Read s = .next u ∧ s15Read (s.onBus s.bus before after) = .next (u.onBus u.bus before after) := by
  obtain ⟨early, hs⟩ | ⟨late, v, hv, hs⟩ := s15Read_cases s
  · obtain ⟨-, ht⟩ | ⟨late, -⟩ := s15Read_cases (s.onBus s.bus before after)
    · exact ⟨_, hs, ht⟩
    · exact Bool.noConfusion (early.symm.trans late)
  · obtain ⟨early, -⟩ | ⟨-, w, hw, ht⟩ := s15Read_cases (s.onBus s.bus before after)
    · exact Bool.noConfusion (late.symm.trans early)
    · obtain ⟨v', hv', kept⟩ := exec_keepsOutsideDecoder (decode s.ilOp) { s with sin := s.bus.io }
      obtain rfl := Host.Outcome.next.inj (hv.symm.trans hv')
      have run := exec_onBus s.bus before after (decode s.ilOp) (s := { s with sin := s.bus.io }) rfl
      rw [hv, onNext_next] at run
      obtain rfl := Host.Outcome.next.inj (run.symm.trans hw)
      refine ⟨_, hs, ht.trans ?_⟩
      have bus : v.bus = s.bus := kept.bus
      rw [← bus]
      rfl

/-- A read phase: the core does the same, wherever the other chips are attached. -/
theorem coreProcess_reattached {s : State} (hr : s.bus.write = false) (before after : List Nat) :
    ∃ u, coreProcess s = .next u ∧ coreProcess (s.onBus s.bus before after) = .next (u.onBus u.bus before after) := by
  obtain normal | boot := Nat.eq_zero_or_pos s.resetCnt
  case inr => exact ⟨_, bootPhasesExecuteNothing s boot, bootPhasesExecuteNothing (s.onBus s.bus before after) boot⟩
  have normal' : (s.onBus s.bus before after).resetCnt = 0 := normal
  rw [coreProcess_normal s normal, coreProcess_normal _ normal', publishIdle_of_read hr,
    publishIdle_of_read (s := s.onBus s.bus before after) hr]
  cases normalPhase_exhaustive s with
  | s0Write at0 => exact Bool.noConfusion (hr.symm.trans at0.2)
  | s1Write _ hw => exact Bool.noConfusion (hr.symm.trans hw)
  | s2Write _ hw => exact Bool.noConfusion (hr.symm.trans hw)
  | s14Write _ hw => exact Bool.noConfusion (hr.symm.trans hw)
  | s2Read hs _ =>
    rw [normalPhase_s2Read hs hr, normalPhase_s2Read (s := s.onBus s.bus before after) hs hr, s2Read_eq, s2Read_eq]
    exact ⟨_, rfl, rfl⟩
  | unnamed h =>
    exact ⟨s, normalPhase_unnamed h, normalPhase_unnamed (s := s.onBus s.bus before after) h⟩
  | s15Read at15 =>
    rw [normalPhase_s15Read at15.1 hr, normalPhase_s15Read (s := s.onBus s.bus before after) at15.1 hr]
    exact s15Read_reattached s before after

/-- What the core writes in a write phase, as a list of writes of bus fields: the list is the same on every bus that
names the same phase, and at S0 write carries the same EXT and the same key line. IDLE has no other writer. -/
structure WritesAs (s u : State) (ws : List BusWrite) : Prop where
  named : ∀ w ∈ ws, coreWrites s w.field = true
  runs : ∀ (b : Bus) (before after : List Nat), b.write = s.bus.write → b.sstate = s.bus.sstate →
    b.dstate = s.bus.dstate → (s.AtS0Write → b.ext = s.bus.ext ∧ b.keyLine = s.bus.keyLine) →
    coreProcess (s.onBus b before after) = .next (u.onBus (applyWrites ws { b with idle := s.idle }) before after)

theorem coreProcess_boot_writesAs {s : State} (boot : 0 < s.resetCnt) (hw : s.bus.write = true) :
    ∃ u ws, WritesAs s u ws := by
  by_cases h0 : s.bus.sstate = 0
  · refine ⟨s, [.ext 1], by simp [BusWrite.field, coreWrites, h0, boot], fun b before after write sstate _ _ => ?_⟩
    rw [bootPhasesExecuteNothing (s.onBus b before after) boot]
    simp [State.onBus, State.AtS0Write, State.AtS15Read, write, sstate, hw, h0, BusWrite.apply]
  by_cases h14 : s.bus.sstate = 14
  · refine ⟨s, [.display blankDisplay], by simp [BusWrite.field, coreWrites, h14],
      fun b before after write sstate _ _ => ?_⟩
    rw [bootPhasesExecuteNothing (s.onBus b before after) boot]
    simp [State.onBus, State.AtS0Write, State.AtS15Read, write, sstate, hw, h14, BusWrite.apply]
  · refine ⟨s, [], by simp, fun b before after write sstate _ _ => ?_⟩
    rw [bootPhasesExecuteNothing (s.onBus b before after) boot]
    simp_all [State.onBus, State.AtS0Write, State.AtS15Read]

/-- The publications of S0 write, as writes. -/
def published (u : State) : List BusWrite :=
  (if u.ioValid = true then [.io u.ioOut] else []) ++ if isExtkr u.ilOp = true then [] else [.ext (rotr16 u.kr)]

theorem applyWrites_published (u : State) (b : Bus) :
    applyWrites (published u) b =
      { b with
        io := if u.ioValid = true then u.ioOut else b.io
        ext := if isExtkr u.ilOp = true then b.ext else rotr16 u.kr } := by
  unfold published
  split_ifs <;> rfl

theorem publish_onBus (b : Bus) (before after : List Nat) (u : State) :
    publishKr (publishIo (u.onBus b before after)) =
      { u with ioValid := false }.onBus (applyWrites (published u) b) before after := by
  rw [publish_eq, applyWrites_published]
  rfl

theorem mem_published {u : State} {w : BusWrite} (h : w ∈ published u) :
    w.field = .io ∧ u.ioValid = true ∨ w.field = .ext ∧ isExtkr u.ilOp = false := by
  obtain io | ext := List.mem_append.mp h
  · split at io
    next valid =>
      obtain rfl := List.mem_singleton.mp io
      exact .inl ⟨rfl, valid⟩
    next => simp at io
  · split at ext
    next => simp at ext
    next other =>
      obtain rfl := List.mem_singleton.mp ext
      exact .inr ⟨rfl, Bool.eq_false_iff.mpr other⟩

theorem coreProcess_s0Write_writesAs {s : State} (normal : s.resetCnt = 0) (at0 : s.AtS0Write) :
    ∃ u ws, WritesAs s u ws := by
  have idle := publishIdle_of_write at0.2
  obtain ⟨u, hu, -⟩ := s0WriteExecute_withinPhase (publishIdle s)
  obtain ⟨v, hv, -⟩ := s0WriteExecute_withinPhase s
  have kept := s0WriteExecute_keepsOutsideDecoder hu
  have valid : u.ioValid = v.ioValid :=
    s0WriteExecute_ioValid (publishIdle_ilOp s) (publishIdle_cfg s) (publishIdle_ioValid s) hv hu
  have ilOp : u.ilOp = s.ilOp := by rw [kept.ilOp, s0WriteEnter_ilOp, publishIdle_ilOp]
  refine ⟨{ u with ioValid := false }, published u, fun w hw => ?_, fun b before after write sstate dstate read => ?_⟩
  · obtain ⟨io, marked⟩ | ⟨ext, other⟩ := mem_published hw
    · simp [io, coreWrites, at0.1, normal, hv, ← valid, marked]
    · simp [ext, coreWrites, at0.1, ← ilOp, other]
  · have write' : (s.onBus b before after).bus.write = true := write.trans at0.2
    have entry : publishIdle (s.onBus b before after) =
        (publishIdle s).onBus { b with idle := s.idle } before after := by
      rw [publishIdle_of_write write', idle]
      rfl
    obtain ⟨ext, keyLine⟩ := read at0
    have run : s0WriteExecute ((publishIdle s).onBus { b with idle := s.idle } before after) =
        .next (u.onBus { b with idle := s.idle } before after) := by
      rw [s0WriteExecute_onBus, hu, onNext_next] <;> rw [idle] <;> assumption
    rw [coreProcess_normal (s.onBus b before after) normal, entry,
      normalPhase_s0Write (sstate.trans at0.1) (write.trans at0.2), s0Write, run, onNext_next, publish_onBus]

/-- A signal ORed onto EXT, as writes. -/
def signal (c : Bool) (v : Word16) : List BusWrite := if c = true then [.orExt v] else []

theorem applyWrites_signal (c : Bool) (v : Word16) (b : Bus) :
    applyWrites (signal c v) b = { b with ext := if c = true then b.ext ||| v else b.ext } := by
  unfold signal
  split <;> rfl

theorem mem_signal {c : Bool} {v : Word16} {w : BusWrite} (h : w ∈ signal c v) : w.field = .ext ∧ c = true := by
  unfold signal at h
  split at h
  next set =>
    obtain rfl := List.mem_singleton.mp h
    exact ⟨rfl, set⟩
  next => simp at h

theorem coreProcess_writesAs {s : State} (hw : s.bus.write = true) : ∃ u ws, WritesAs s u ws := by
  obtain normal | boot := Nat.eq_zero_or_pos s.resetCnt
  case inr => exact coreProcess_boot_writesAs boot hw
  have phases (b : Bus) (before after : List Nat) := signallingPhases (s.onBus b before after) normal
  cases normalPhase_exhaustive s with
  | s0Write at0 => exact coreProcess_s0Write_writesAs normal at0
  | s1Write hs _ =>
    refine ⟨{ s with condL := false }, signal s.condL 2#16, fun w mem => ?_, fun b before after write sstate _ _ => ?_⟩
    · obtain ⟨field, set⟩ := mem_signal mem
      simp [field, coreWrites, hs, normal, set]
    · rw [(phases b before after).1 (sstate.trans hs) (write.trans hw), applyWrites_signal]
      rfl
  | s2Write hs _ =>
    refine ⟨s, signal s.hold 4#16, fun w mem => ?_, fun b before after write sstate _ _ => ?_⟩
    · obtain ⟨field, set⟩ := mem_signal mem
      simp [field, coreWrites, hs, normal, set]
    · rw [(phases b before after).2.1 (sstate.trans hs) (write.trans hw), applyWrites_signal]
      rfl
  | s14Write hs _ =>
    refine ⟨s, [.display blankDisplay], by simp [BusWrite.field, coreWrites, hs],
      fun b before after write sstate _ _ => ?_⟩
    exact (phases b before after).2.2.2 (sstate.trans hs) (write.trans hw)
  | s2Read _ hr => exact Bool.noConfusion (hr.symm.trans hw)
  | s15Read at15 => exact Bool.noConfusion (at15.2.symm.trans hw)
  | unnamed h =>
    refine ⟨s, [], by simp, fun b before after write sstate _ _ => ?_⟩
    have write' : (s.onBus b before after).bus.write = true := write.trans hw
    rw [otherPhasesChangeNothing (s.onBus b before after) normal (fun _ => sstate ▸ h.1 hw)
      fun hr => Bool.noConfusion (hr.symm.trans write'), if_pos write']
    rfl

end Sys2Proof.Machine
end

section
/-!
SUPPORT. The attachment order (20_memory.md R83, R88): where no bus field has two writers in a phase, the chips may write
in any order, the core among them.
-/
namespace Sys2Proof.Machine

open Sys2Proof

/-! Writes in another order -/

theorem applyWrites_idle (ws : List BusWrite) (b : Bus) (v : Bool) :
    applyWrites ws { b with idle := v } = { applyWrites ws b with idle := v } := by
  induction ws generalizing b with
  | nil => rfl
  | cons w ws ih =>
    have first : w.apply { b with idle := v } = { w.apply b with idle := v } := by cases w <;> rfl
    rw [applyWrites_cons, applyWrites_cons, first, ih]

theorem applyWrites_phase (ws : List BusWrite) (b : Bus) :
    (applyWrites ws b).write = b.write ∧ (applyWrites ws b).sstate = b.sstate ∧
      (applyWrites ws b).dstate = b.dstate := by
  rw [applyWrites_owned]
  exact ⟨rfl, rfl, rfl⟩

theorem applyWrites_keyLine (ws : List BusWrite) (b : Bus) (h : ∀ w ∈ ws, w.field ≠ .keyLine) :
    (applyWrites ws b).keyLine = b.keyLine := by
  induction ws generalizing b with
  | nil => rfl
  | cons w ws ih =>
    rw [applyWrites_cons, ih (w.apply b) fun v hv => h v (List.mem_cons_of_mem _ hv)]
    cases w with
    | keyLine => exact absurd rfl (h _ List.mem_cons_self)
    | _ => rfl

/-- No field has two writers among the members of the list l. -/
def DisjointWrites {α : Type} (W : α → List BusWrite) (l : List α) : Prop :=
  ∀ x ∈ l, ∀ y ∈ l, x ≠ y → ∀ u ∈ W x, ∀ w ∈ W y, u.field ≠ w.field

theorem applyWrites_flatMap_perm {α : Type} {W : α → List BusWrite} {l l' : List α} (perm : l.Perm l')
    (disjoint : DisjointWrites W l) (b : Bus) : applyWrites (l.flatMap W) b = applyWrites (l'.flatMap W) b := by
  unfold applyWrites
  rw [List.foldl_flatMap, List.foldl_flatMap]
  refine perm.foldl_eq' (fun x hx y hy c => ?_) b
  obtain rfl | other := eq_or_ne x y
  · rfl
  · exact applyWrites_comm (W x) (W y) c (disjoint x hx y hy other)

/-! The chips and the core as the writers of a phase -/

/-- The writers in attachment order, the core standing between the two lists of chips. -/
def writers (before after : List Nat) : List (Option Nat) := before.map some ++ none :: after.map some

/-- What each of them writes, ws being the core's writes. -/
def writesOf (f : Frame) (ws : List BusWrite) (x : Option Nat) : List BusWrite :=
  match x with
  | none => ws
  | some n => (f.action n).writes

theorem mem_writers {before after : List Nat} {n : Nat} : some n ∈ writers before after ↔ n ∈ before ++ after := by
  simp [writers]

theorem flatMap_writers (f : Frame) (ws : List BusWrite) (before after : List Nat) :
    (writers before after).flatMap (writesOf f ws) =
      (before.flatMap fun n => (f.action n).writes) ++ ws ++ after.flatMap fun n => (f.action n).writes := by
  simp [writers, List.flatMap_map, writesOf]

theorem writers_perm {before after before' after' : List Nat} (h : (before' ++ after').Perm (before ++ after)) :
    (writers before' after').Perm (writers before after) := by
  have coreFirst (l m : List Nat) : (writers l m).Perm (none :: (l ++ m).map some) := by
    rw [List.map_append]
    exact List.perm_middle
  exact (coreFirst before' after').trans (((h.map some).cons none).trans (coreFirst before after).symm)

theorem BusField.mem_all (b : BusField) : b ∈ BusField.all := by
  cases b <;> decide

theorem writes_of_mem {f : Frame} {n : Nat} {w : BusWrite} (h : w ∈ (f.action n).writes) :
    f.writes n w.field = true :=
  List.any_eq_true.mpr ⟨w, h, decide_eq_true rfl⟩

section
variable {s : State} {b : BusField}

/-- Two chips that write the field are the same. -/
theorem eq_of_writerCount_le {n m : Nat} (single : s.writerCount b ≤ 1) (hn : n ∈ s.cfg.attached)
    (hm : m ∈ s.cfg.attached) (wn : s.frame.writes n b = true) (wm : s.frame.writes m b = true) : n = m := by
  have few : (s.cfg.attached.filter fun n => s.frame.writes n b).length ≤ 1 := (Nat.le_add_right ..).trans single
  by_contra other
  have both : [n, m].Subperm (s.cfg.attached.filter fun n => s.frame.writes n b) :=
    List.Nodup.subperm (by simp [other]) (by
      intro k hk
      obtain rfl | rfl : k = n ∨ k = m := by simpa using hk
      · exact List.mem_filter.mpr ⟨hn, wn⟩
      · exact List.mem_filter.mpr ⟨hm, wm⟩)
  have two : 2 ≤ 1 := both.length_le.trans few
  omega

/-- Where a chip writes the field the core does not. -/
theorem coreWrites_of_writerCount_le {n : Nat} (single : s.writerCount b ≤ 1) (hn : n ∈ s.cfg.attached)
    (wn : s.frame.writes n b = true) : coreWrites s b = false := by
  have some_chip : 0 < (s.cfg.attached.filter fun n => s.frame.writes n b).length :=
    List.length_pos_of_mem (List.mem_filter.mpr ⟨hn, wn⟩)
  unfold State.writerCount at single
  exact (Bool.toNat_eq_zero ..).mp (by omega)

end

theorem disjointWrites_of_singleWriter {s : State} {ws : List BusWrite} (single : ∀ b, s.writerCount b ≤ 1)
    (named : ∀ w ∈ ws, coreWrites s w.field = true) :
    DisjointWrites (writesOf s.frame ws) (writers s.cfg.attachedBefore s.cfg.attachedAfter) := by
  have chipAlone {n : Nat} (hn : some n ∈ writers s.cfg.attachedBefore s.cfg.attachedAfter) {u w : BusWrite}
      (hu : u ∈ (s.frame.action n).writes) (hw : w ∈ ws) : u.field ≠ w.field := fun same => by
    have silent := coreWrites_of_writerCount_le (single u.field) (mem_writers.mp hn) (writes_of_mem hu)
    exact Bool.noConfusion (silent.symm.trans (same ▸ named w hw))
  intro x hx y hy other u hu w hw
  cases x with
  | none =>
    cases y with
    | none => exact absurd rfl other
    | some m => exact (chipAlone hy hw hu).symm
  | some n =>
    cases y with
    | none => exact chipAlone hx hu hw
    | some m =>
      intro same
      have hwn := writes_of_mem (f := s.frame) hu
      rw [same] at hwn
      exact other (congrArg some (eq_of_writerCount_le (single w.field) (mem_writers.mp hx) (mem_writers.mp hy) hwn
        (writes_of_mem hw)))

/-! The step with the chips attached elsewhere -/

theorem othersStop_reattached {s : State} {before after : List Nat} (h : (before ++ after).Perm s.cfg.attached) :
    (s.onBus s.bus before after).othersStop = s.othersStop := h.any_eq

theorem advance_reattached (s : State) (before after : List Nat) :
    advance (s.onBus s.bus before after) = (advance s).onBus (advance s).bus before after := by
  have bus : (s.onBus s.bus before after).bus = s.bus := rfl
  have stopReq : (s.onBus s.bus before after).stopReq = s.stopReq := rfl
  unfold advance
  rw [bus, stopReq]
  split_ifs <;> rfl

/-- The phase opened: BUSY, the sequencer's stop and the schedule, before any chip writes. -/
def opened (s : State) : State :=
  { s with
    busy := s.busy || s.frame.setBusy
    stopReq := (if s.bus.write = true then false else s.stopReq) || s.othersStop
    env := s.env.tail }

theorem beforeCore_of_read {s : State} (hr : s.bus.write = false) : beforeCore s = opened s := by
  obtain ⟨b, hb, same⟩ := beforeCore_spec s
  rw [hb, same hr]
  rfl

theorem beforeCore_of_write {s : State} (hw : s.bus.write = true) :
    beforeCore s = { opened s with bus := applyWrites s.writesBefore s.bus } :=
  if_pos hw

theorem opened_reattached {s : State} {before after : List Nat} (h : (before ++ after).Perm s.cfg.attached) :
    opened (s.onBus s.bus before after) = (opened s).onBus s.bus before after := by
  unfold opened
  rw [othersStop_reattached h]
  rfl

theorem chipWrites_onBus {b : Bus} (write : b.write = true) (ws : List BusWrite) (u : State) (before after : List Nat) :
    chipWrites ws (u.onBus b before after) = u.onBus (applyWrites ws b) before after :=
  if_pos write

/-- In a read phase no chip writes, and the core does not look at who is attached. -/
theorem step_reattached_of_read {s : State} {before after : List Nat} (running : s.ended = false)
    (hr : s.bus.write = false) (h : (before ++ after).Perm s.cfg.attached) :
    ∃ t, step s = .next t ∧ step (s.onBus s.bus before after) = .next (t.onBus t.bus before after) := by
  have silent (ws : List BusWrite) {t : State} (read : t.bus.write = false) : chipWrites ws t = t := by
    simp [chipWrites, read]
  obtain ⟨u, core, core'⟩ := coreProcess_reattached (s := opened s) hr before after
  obtain ⟨v, hv, within⟩ := coreProcess_withinPhase (opened s)
  obtain rfl := Host.Outcome.next.inj (core.symm.trans hv)
  have read : u.bus.write = false := within.phase.write.trans hr
  rw [← beforeCore_of_read hr] at core
  have entry : beforeCore (s.onBus s.bus before after) = (opened s).onBus s.bus before after :=
    (beforeCore_of_read (s := s.onBus s.bus before after) hr).trans (opened_reattached h)
  refine ⟨_, step_eq_of_coreProcess running core, ?_⟩
  rw [step_eq_of_coreProcess (s := s.onBus s.bus before after) running (entry ▸ core'), silent _ read,
    silent _ (t := u.onBus u.bus before after) read, advance_reattached]

theorem coreWrites_beforeCore (s : State) (b : BusField) : coreWrites (beforeCore s) b = coreWrites s b := by
  have sstate := (beforeCore_samePhase s).sstate
  obtain ⟨u, hu, -⟩ := s0WriteExecute_withinPhase s
  obtain ⟨v, hv, -⟩ := s0WriteExecute_withinPhase (beforeCore s)
  have valid : v.ioValid = u.ioValid :=
    s0WriteExecute_ioValid (beforeCore_ilOp s) (beforeCore_cfg s) (beforeCore_ioValid s) hu hv
  cases b with
  | ext => simp only [coreWrites, sstate, beforeCore_resetCnt, beforeCore_ilOp, beforeCore_condL, beforeCore_hold]
  | io => simp only [coreWrites, sstate, beforeCore_resetCnt, hu, hv, valid]
  | display => simp only [coreWrites, sstate]
  | irg | keyLine | fetchAddr => rfl

/-- A write phase, wherever the chips are attached: the writes of all of them in attachment order. -/
theorem step_of_writesAs {s u : State} {ws : List BusWrite} {before after : List Nat} (running : s.ended = false)
    (hw : s.bus.write = true) (core : WritesAs (beforeCore s) u ws)
    (h : (before ++ after).Perm s.cfg.attached)
    (read : s.AtS0Write →
      (applyWrites (s.onBus s.bus before after).writesBefore s.bus).ext = (applyWrites s.writesBefore s.bus).ext ∧
      (applyWrites (s.onBus s.bus before after).writesBefore s.bus).keyLine =
        (applyWrites s.writesBefore s.bus).keyLine) :
    step (s.onBus s.bus before after) =
      .next (advance (u.onBus
        (applyWrites ((writers before after).flatMap (writesOf s.frame ws)) { s.bus with idle := s.idle })
        before after)) := by
  have own := beforeCore_of_write hw
  have phase := beforeCore_samePhase s
  have entry : beforeCore (s.onBus s.bus before after) =
      (beforeCore s).onBus (applyWrites (s.onBus s.bus before after).writesBefore s.bus) before after := by
    rw [beforeCore_of_write (s := s.onBus s.bus before after) hw, opened_reattached h, own]
    rfl
  obtain ⟨write, sstate, dstate⟩ := applyWrites_phase (s.onBus s.bus before after).writesBefore s.bus
  have run := core.runs _ before after (write.trans phase.write.symm) (sstate.trans phase.sstate.symm)
    (dstate.trans phase.dstate.symm) (by
      rw [State.AtS0Write, phase.write, phase.sstate, own]
      exact read)
  rw [← entry] at run
  have left := applyWrites_phase ws
    { applyWrites (s.onBus s.bus before after).writesBefore s.bus with idle := (beforeCore s).idle }
  rw [step_eq_of_coreProcess (s := s.onBus s.bus before after) running run,
    chipWrites_onBus (left.1.trans (write.trans hw)), flatMap_writers, applyWrites_append, applyWrites_append,
    applyWrites_idle (before.flatMap _), beforeCore_idle]
  rfl

/-- Attached elsewhere, the chips write the same list of writes in another order. -/
theorem step_reattached_of_write {s : State} {before after : List Nat} (running : s.ended = false)
    (hw : s.bus.write = true) (h : (before ++ after).Perm s.cfg.attached)
    (single : ∀ b, s.writerCount b ≤ 1)
    (read : s.AtS0Write →
      (applyWrites (s.onBus s.bus before after).writesBefore s.bus).ext = (applyWrites s.writesBefore s.bus).ext ∧
      (applyWrites (s.onBus s.bus before after).writesBefore s.bus).keyLine =
        (applyWrites s.writesBefore s.bus).keyLine) :
    ∃ t, step s = .next t ∧ step (s.onBus s.bus before after) = .next (t.onBus t.bus before after) := by
  obtain ⟨u, ws, core⟩ := coreProcess_writesAs ((beforeCore_samePhase s).write.trans hw)
  have disjoint : DisjointWrites (writesOf s.frame ws) (writers s.cfg.attachedBefore s.cfg.attachedAfter) :=
    disjointWrites_of_singleWriter single fun w mem => (coreWrites_beforeCore s w.field).symm.trans (core.named w mem)
  have own : step s = _ :=
    step_of_writesAs (before := s.cfg.attachedBefore) (after := s.cfg.attachedAfter) running hw core (.refl _)
      fun _ => ⟨rfl, rfl⟩
  refine ⟨_, own, ?_⟩
  rw [step_of_writesAs running hw core h read, ← applyWrites_flatMap_perm (writers_perm h).symm disjoint,
    ← advance_reattached]
  rfl

/-- Settles O60: `step_reattached_of_read` and `step_reattached_of_write`, as the core at S0 write sees the same EXT and
the same key line. -/
theorem attachmentOrderDoesNotDecide : Obligations.AttachmentOrderDoesNotDecide := by
  intro s before after reattach running _ singleWriter orders
  have perm : (before ++ after).Perm s.cfg.attached := by
    obtain ⟨hb, ha⟩ | ⟨h, -⟩ := orders
    · exact hb.append ha
    · exact h
  cases hw : s.bus.write with
  | false => exact step_reattached_of_read running hw perm
  | true =>
    have single (b : BusField) := singleWriter hw b b.mem_all
    refine step_reattached_of_write running hw perm single fun at0 => ?_
    obtain ⟨hb, -⟩ | ⟨-, silent⟩ := orders
    · have disjoint : DisjointWrites (fun n => (s.frame.action n).writes) s.cfg.attachedBefore :=
        fun x hx y hy other u hu w hw =>
          disjointWrites_of_singleWriter (ws := []) single (by simp) (some x) (by simp [mem_writers, hx]) (some y)
            (by simp [mem_writers, hy]) (by simpa using other) u hu w hw
      have same : applyWrites (s.onBus s.bus before after).writesBefore s.bus = applyWrites s.writesBefore s.bus :=
        (applyWrites_flatMap_perm hb.symm disjoint s.bus).symm
      rw [same]
      exact ⟨rfl, rfl⟩
    · have kept {l : List Nat} (hl : ∀ n ∈ l, n ∈ s.cfg.attached) :
          (applyWrites (l.flatMap fun n => (s.frame.action n).writes) s.bus).ext = s.bus.ext ∧
          (applyWrites (l.flatMap fun n => (s.frame.action n).writes) s.bus).keyLine = s.bus.keyLine := by
        refine ⟨applyWrites_ext _ _ fun w mem => ?_, applyWrites_keyLine _ _ fun w mem => ?_⟩ <;>
          obtain ⟨n, hn, hw⟩ := List.mem_flatMap.mp mem
        · exact field_ne_of_writes_eq_false (silent at0 n (hl n hn)).1 w hw
        · exact field_ne_of_writes_eq_false (silent at0 n (hl n hn)).2 w hw
      have now := kept (l := before) fun n hn => perm.subset (List.mem_append_left _ hn)
      have was := kept (l := s.cfg.attachedBefore) fun n hn => List.mem_append_left _ hn
      exact ⟨now.1.trans was.1.symm, now.2.trans was.2.symm⟩

end Sys2Proof.Machine
end
